-- ==== Sys2Proof/Word.lean ====
section
/-! DEFINITION. The word types of the WZ640: octets, film positions and item bitmaps. -/

namespace Sys2Proof

/-- Eight bits (00_scope.md, Conventions, Octets). -/
abbrev Octet := BitVec 8

/-- A film position, 0..4,294,967,295 (R1, R131). -/
abbrev Position := BitVec 32

/-- The item bitmap of one flag class, item i at bit i; wide enough for PUNCH, the largest class (R173). -/
abbrev Bitmap := BitVec 128

end Sys2Proof
end

