-- ==== Sys2Proof/Syntax.lean ====
section
/-! DEFINITION. The commands of the WZ640: one constructor for each row of spec/opcode_table.json. -/

namespace Sys2Proof

/-- The four inbound stage links; A is the master link (00_scope.md, R22). -/
inductive Link
  | a | b | c | d
  deriving DecidableEq, Repr

/-- How many messages the command processor takes within the event of a passing frame, which is the world's to say (log entries 5
and 27): `early` of those that wait, before the receiver takes the frame (R158, R187), and `late` of those that the frame itself
completes, before the engine frame that the same event makes (R156). -/
structure Takes where
  early : Nat
  late : Nat
  deriving DecidableEq, Repr

/-- One constructor per row of the table of operations and events.

* The first four are the events of the link receivers and of the local oscillator, the fifth is the start-up reset.
* The next five are events that come about inside an engine frame (or at a notice's end); as commands they name that
  one event alone (log entry 6).
* The sixteen command kinds and the unknown kind carry the tag and the payload octets of the controller's message,
  laid out as R171 gives them, so that every payload the lane can carry can be written, well formed or not. -/
inductive Instr
  /-- R4: the octets of a received frame; the time since the link's last arrival in picoseconds (R17); the messages taken. -/
  | passingFrame (link : Link) (octets : List Octet) (interval : Nat) (takes : Takes)
  /-- R4: a frame that fails a frame check; no field of it is used, only the time of its arrival (R17). -/
  | badFrame (link : Link) (interval : Nat)
  /-- R5: one and a half frame periods without an arrival. -/
  | missingFrame (link : Link)
  /-- R16: a period of the local oscillator ends. -/
  | oscillatorPeriod
  /-- R185 and every rule that gives a start-up value: power-on or the RESET line. -/
  | startUpReset
  /-- R75: the pool entry of crosspoint (row, col) reaches its length. -/
  | rampCompletion (row : Fin 256) (col : Fin 64)
  /-- R124: a crossfading slot reaches L or 0. -/
  | punchArrival (slot : Fin 128)
  /-- R97: the sweep's visits reach row 255. -/
  | sweepCompletion
  /-- R177: the running coalescing timer reaches 0. -/
  | coalescingTimerExpiry
  /-- R179: a due notice is composed. -/
  | noticeComposition
  /-- R163, kind 01h. -/
  | status (tag : Octet) (payload : List Octet)
  /-- R164, kind 02h. -/
  | readTable (tag : Octet) (payload : List Octet)
  /-- R165, kind 03h. -/
  | writeTable (tag : Octet) (payload : List Octet)
  /-- R166, kind 04h. -/
  | writeField (tag : Octet) (payload : List Octet)
  /-- R86, kind 05h. -/
  | setWindow (tag : Octet) (payload : List Octet)
  /-- R90, R91, kind 06h. -/
  | writeGains (tag : Octet) (payload : List Octet)
  /-- R93, kind 07h. -/
  | readGains (tag : Octet) (payload : List Octet)
  /-- R95, kind 08h. -/
  | matrixClear (tag : Octet) (payload : List Octet)
  /-- R138, kind 09h. -/
  | queueEvents (tag : Octet) (payload : List Octet)
  /-- R149, kind 0Ah. -/
  | flushQueue (tag : Octet) (payload : List Octet)
  /-- R127, kind 0Bh. -/
  | punch (tag : Octet) (payload : List Octet)
  /-- R168, R180, kind 0Ch. -/
  | readFlags (tag : Octet) (payload : List Octet)
  /-- R168, R181, kind 0Dh. -/
  | clearFlags (tag : Octet) (payload : List Octet)
  /-- R168, R182, kind 0Eh. -/
  | testAndClear (tag : Octet) (payload : List Octet)
  /-- R168, R184, kind 0Fh. -/
  | readCounters (tag : Octet) (payload : List Octet)
  /-- R169, kind 10h. -/
  | engineReset (tag : Octet) (payload : List Octet)
  /-- R158: a message whose kind is none of 01h..10h. -/
  | unknownCommandKind (kind tag : Octet) (payload : List Octet)
  deriving DecidableEq, Repr

end Sys2Proof
end

