-- ==== Sys2Proof/Config.lean ====
section
/-! DEFINITION. The one number of this model that stands outside the manual: the resolution in which the
intervals between link A's arrivals are given (R17). The manual leaves no value free that the machine then uses, so
there is no opaque constant here; the choices it leaves to the world (which of two events is taken first) are the order
in which commands are sent. -/

namespace Sys2Proof.Config

/-- DESIGN CHOICE (log entry 3): an interval between two arrivals is a whole number of picoseconds. -/
def ticksPerSecond : Nat := 1000000000000

end Sys2Proof.Config
end

