-- ==== Sys2Proof/Machine/Octets.lean ====
section
/-! DEFINITION. Octet order, the frame check, and the layouts of messages and link frames (R1 to R4, R154, R170). -/

namespace Sys2Proof.Machine

/-- A multi-octet number is sent most significant octet first (R170). -/
def octets16 (w : BitVec 16) : List Octet := [w.extractLsb' 8 8, w.extractLsb' 0 8]

def octets24 (w : BitVec 24) : List Octet := [w.extractLsb' 16 8, w.extractLsb' 8 8, w.extractLsb' 0 8]

def octets32 (w : BitVec 32) : List Octet :=
  [w.extractLsb' 24 8, w.extractLsb' 16 8, w.extractLsb' 8 8, w.extractLsb' 0 8]

def word16 (hi lo : Octet) : BitVec 16 := hi ++ lo

def word24 (hi mid lo : Octet) : BitVec 24 := hi ++ mid ++ lo

def word32 (o0 o1 o2 o3 : Octet) : BitVec 32 := o0 ++ o1 ++ o2 ++ o3

/-- An unsigned number in two octets (R171). -/
def count16 (n : Nat) : List Octet := octets16 (BitVec.ofNat 16 n)

/-- A gain code in two octets, two's complement (R56, R170). -/
def code16 (x : Int) : List Octet := octets16 (BitVec.ofInt 16 x)

/-- The signed number two octets hold (R56, R166). -/
def signed16 (hi lo : Octet) : Int := (word16 hi lo).toInt

/-- One shift of the check register, generator x^16 + x^12 + x^5 + 1 (R3). -/
def crcBit (r : BitVec 16) : BitVec 16 := if r.msb then (r <<< 1) ^^^ 0x1021#16 else r <<< 1

/-- One octet into the check register, most significant bit first (R3). -/
def crcOctet (r : BitVec 16) (o : Octet) : BitVec 16 := Nat.repeat crcBit 8 (r ^^^ (o.setWidth 16 <<< 8))

/-- The 16-bit check, preset FFFFh, not reflected, not inverted (R3). -/
def crc16 (l : List Octet) : BitVec 16 := l.foldl crcOctet 0xFFFF#16

/-- A message of the control lane, by its kind, tag and payload (R153). -/
structure Message where
  kind : Octet
  tag : Octet
  payload : List Octet
  deriving DecidableEq, Repr

/-- The octets the message check covers: length, kind, tag and payload (R154, R170). -/
def Message.body (m : Message) : List Octet :=
  BitVec.ofNat 8 (m.payload.length + 6) :: m.kind :: m.tag :: m.payload

/-- The message as the lane carries it: start octet C3h, body, check (R170). -/
def Message.octets (m : Message) : List Octet := 0xC3#8 :: m.body ++ octets16 (crc16 m.body)

/-- The announcement of a link: class 0..15, slot count, identity (R1, R22). -/
structure Announcement where
  cls : Fin 16
  slots : Nat
  ident : Octet
  deriving DecidableEq, Repr

/-- One sample for each of slots 0..63 (R6, R8). A sample is a number in −8,388,608..+8,388,607. -/
abbrev Samples := Vector Int 64

def zeroSamples : Samples := Vector.replicate 64 0

/-- What a receiver takes from a passing frame (R4); slots at and beyond the slot count hold zero (R6). -/
structure LinkFrame where
  ann : Announcement
  rolling : Bool
  pos : Position
  samples : Samples
  lane : List Octet
  deriving DecidableEq, Repr

/-- The sample of slot i: the upper three octets of audio word i (R2, R170). -/
def frameSample (o : List Octet) (i : Nat) : Int :=
  (word24 (o.getD (8 + 4 * i) 0) (o.getD (9 + 4 * i) 0) (o.getD (10 + 4 * i) 0)).toInt

/-- The slot count field, bits 6..0 of octet 2 of the header (R170). -/
def frameSlots (o : List Octet) : Nat := (o.getD 2 0).toNat % 128

/-- R4: marker B4h, slot count 1..64, and the check of R3 over all octets before it. A frame of n slots is n + 4 words
long (R1). -/
def framePasses (o : List Octet) : Bool :=
  let n := frameSlots o
  o.getD 0 0 == 0xB4#8 && decide (1 ≤ n ∧ n ≤ 64 ∧ o.length = 4 * (n + 4)) &&
    crc16 (o.take (4 * n + 14)) == word16 (o.getD (4 * n + 14) 0) (o.getD (4 * n + 15) 0)

/-- The fields of a frame by the layout of R170. -/
def readFrame (o : List Octet) : LinkFrame :=
  let n := frameSlots o
  { ann := ⟨((o.getD 1 0).extractLsb' 4 4).toFin, n, o.getD 3 0⟩
    rolling := (o.getD 1 0).getLsbD 3
    pos := word32 (o.getD 4 0) (o.getD 5 0) (o.getD 6 0) (o.getD 7 0)
    samples := Vector.ofFn fun i => if i.val < n then frameSample o i.val else 0
    lane := [o.getD (4 * n + 8) 0, o.getD (4 * n + 9) 0, o.getD (4 * n + 10) 0, o.getD (4 * n + 11) 0] }

/-- The frame a receiver takes whole, or none when the frame is bad (R4). -/
def parseFrame (o : List Octet) : Option LinkFrame := if framePasses o then some (readFrame o) else none

/-- A frame as it is sent, before its check (R1, R19). -/
structure SentFrame where
  cls : BitVec 4
  rolling : Bool
  hold : Bool
  locked : Bool
  slots : Nat
  ident : Octet
  pos : Position
  samples : Samples
  lane : List Octet
  summary : Octet
  deriving DecidableEq, Repr

def bitOctet (b : Bool) : Octet := if b then 1#8 else 0#8

/-- The octets the frame check covers (R3, R170). The lane word is taken as four octets. -/
def SentFrame.body (f : SentFrame) : List Octet :=
  [0xB4#8,
   (f.cls.setWidth 8 <<< 4) ||| (bitOctet f.rolling <<< 3) ||| (bitOctet f.hold <<< 2) ||| (bitOctet f.locked <<< 1),
   BitVec.ofNat 8 f.slots, f.ident] ++ octets32 f.pos ++
    ((f.samples.toList.take f.slots).flatMap fun x => octets24 (BitVec.ofInt 24 x) ++ [0#8]) ++
    f.lane ++ [f.summary, 0#8]

/-- The whole frame, check last, more significant octet first (R3, R170). -/
def SentFrame.octets (f : SentFrame) : List Octet := f.body ++ octets16 (crc16 f.body)

/-- The first `n` octets of an item bitmap, item i at bit (i mod 8) of octet (i div 8) (R173). -/
def bitmapOctets (n : Nat) (b : Bitmap) : List Octet := (List.range n).map fun i => b.extractLsb' (8 * i) 8

/-- The bitmap that octets spell, octet 0 first (R173). -/
def octetsBitmap : List Octet → Bitmap
  | [] => 0#128
  | o :: rest => o.setWidth 128 ||| (octetsBitmap rest <<< 8)

/-- A value clamped into a range (00_scope.md, Arithmetic). -/
def clampInt (lo hi x : Int) : Int := if x < lo then lo else if hi < x then hi else x

/-- Saturation to 24 bits (00_scope.md, Arithmetic). -/
def sat24 (x : Int) : Int := clampInt (-8388608) 8388607 x

end Sys2Proof.Machine
end

