-- ==== Sys2Proof/Machine/State.lean ====
section
/-! DEFINITION. Everything the manual says the WZ640 holds, block by block, and its start-up values. -/

namespace Sys2Proof.Machine

/-- The reasons the machine can stop with a fault: none. The manual names no condition under which the engine stops;
every command completes, if need be with a refusing response. -/
inductive Fault
  deriving DecidableEq, Repr

/-- The reasons a command can be refused by the MODEL. -/
inductive Refusal
  /-- A row that has no meaning yet; raised by an arm of `exec` only. Safe: nothing is claimed of such a row. No arm
  raises it in this model. -/
  | notModelled (mnemonic : String)
  deriving DecidableEq, Repr

/-! ### Ramps (chapter 4) -/

/-- A ramp's start code, target code, length and step count (R62). A component that stands still after a step or a reset
holds length 0 and step count 0, which is complete at its target (R63). -/
structure Ramp where
  start : Int
  target : Int
  len : Nat
  k : Nat
  deriving DecidableEq, Repr

/-- A component standing complete at `t` (R63, R65). -/
def standing (t : Int) : Ramp := ⟨t, t, 0, 0⟩

/-! ### Link receivers and the engine frame clock (chapters 1 and 2) -/

inductive LinkState
  | absent | sensing | accepted | rejected
  deriving DecidableEq, Repr

inductive BufState
  | idle | priming | running
  deriving DecidableEq, Repr

/-- A frame in an elastic buffer: received, or a repeat of the last good samples (section 1.3). -/
inductive BufFrame
  | received (samples : Samples)
  | repeated (samples : Samples)
  deriving DecidableEq, Repr

/-- An elastic buffer: state, frames oldest first, and the samples supplied to the previous engine frame, which an empty
running buffer supplies again (R10, R12). Link A's stays idle and empty. -/
structure Elastic where
  state : BufState
  frames : List BufFrame
  supplied : Samples
  deriving DecidableEq, Repr

def idleBuffer : Elastic := ⟨.idle, [], zeroSamples⟩

/-- What one receiver holds (sections 1.2 and 2.1; R6, R7, R22). -/
structure Receiver where
  state : LinkState
  ann : Option Announcement
  run : Nat
  badRun : Nat
  lastGood : Samples
  buf : Elastic
  deriving DecidableEq, Repr

inductive ClockState
  | free | locked
  deriving DecidableEq, Repr

/-- A rate in frames per second, `num / den` (R17). -/
structure Rate where
  num : Nat
  den : Nat
  deriving DecidableEq, Repr

/-- The engine frame clock (R14, R17): state, the intervals kept (newest first), whether the interval now running may be
kept, and the measured rate if one has been measured. -/
structure Clock where
  state : ClockState
  kept : List Nat
  running : Bool
  rate : Option Rate
  deriving DecidableEq, Repr

/-- An entry of the acceptance table (R32). -/
structure AcceptRec where
  accept : Bool
  min : Nat
  max : Nat
  deriving DecidableEq, Repr

/-! ### Input channels, groups, buses (chapters 3 and 4) -/

/-- An ingress window (R38). -/
structure Window where
  enabled : Bool
  first : Nat
  last : Nat
  chan : Nat
  deriving DecidableEq, Repr

inductive Polarity
  | normal | inverted
  deriving DecidableEq, Repr

/-- A source record and the channel's two dedicated ramps (R43, R45, R50). The trim code field is the trim ramp's
target. -/
structure Chan where
  trim : Ramp
  group : Option (Fin 32)
  polarity : Polarity
  opMute : Bool
  cls : Fin 8
  mute : Ramp
  deriving DecidableEq, Repr

/-- A group record; the trim code field is the ramp's target (R48, R49). -/
structure Group where
  trim : Ramp
  cls : Fin 8
  deriving DecidableEq, Repr

/-- A bus record, its two dedicated ramps and its clip state (R66, R68, R81, R111). -/
structure Bus where
  tier : Fin 4
  level : Ramp
  muted : Bool
  cls : Fin 8
  muteRamp : Ramp
  clipping : Bool
  deriving DecidableEq, Repr

/-! ### The crosspoint matrix and the ramp pool (chapters 4 and 5) -/

/-- A crosspoint: current code, target code, pending mark (R80). -/
structure Xp where
  cur : Int
  tgt : Int
  pend : Bool
  deriving DecidableEq, Repr

/-- A pool entry in use: its crosspoint and that crosspoint's ramp (R70). -/
structure PoolEntry where
  row : Fin 256
  col : Fin 64
  ramp : Ramp
  deriving DecidableEq, Repr

/-- An element of the pending list (R71). -/
structure Waiting where
  row : Fin 256
  col : Fin 64
  cls : Fin 8
  deriving DecidableEq, Repr

/-- The crosspoints, the pool entries in use (1,024 less their number are free; in row-major order, since the pool is a
set) and the pending list, oldest first (R70, R71, R80). -/
structure Matrix where
  cells : Vector (Vector Xp 64) 256
  pool : List PoolEntry
  waiting : List Waiting
  deriving DecidableEq, Repr

inductive Order
  | rows | columns
  deriving DecidableEq, Repr

inductive Dir
  | up | down
  deriving DecidableEq, Repr

/-- The matrix window's seven fields and the window counter's row and column (R86, R87). -/
structure MatrixWindow where
  firstRow : Fin 256
  lastRow : Fin 256
  firstCol : Fin 64
  lastCol : Fin 64
  order : Order
  rowDir : Dir
  colDir : Dir
  row : Fin 256
  col : Fin 64
  deriving DecidableEq, Repr

/-- The matrix clear sweep: its class and the crosspoints still to visit while in flight (R95). -/
inductive Sweep
  | idle
  | inFlight (cls : Fin 8) (left : Nat)
  deriving DecidableEq, Repr

/-! ### The output stage (chapter 7) -/

inductive PunchState
  | replay | toLive | live | toReplay
  deriving DecidableEq, Repr

/-- What a slot carries: the kind with the fields that kind has, and for PUNCH its punch state and crossfade position
(R114, R120). A field a kind does not have is stored as 0 (R115). -/
inductive SlotUse
  | off
  | bus (bus : Fin 64)
  | direct (chan : Fin 192)
  | punch (bus : Fin 64) (replay : Fin 192) (state : PunchState) (k : Nat)
  deriving DecidableEq, Repr

structure Slot where
  use : SlotUse
  cls : Fin 8
  deriving DecidableEq, Repr

/-! ### Transport and automation (chapter 8) -/

/-- Position and rolling flag of the most recent engine frame (R131). -/
structure Tracker where
  pos : Position
  rolling : Bool
  deriving DecidableEq, Repr

/-- What an automation event does, with the fields its kind uses (R136). -/
inductive Move
  | xpTarget (row : Fin 256) (col : Fin 64) (code : Int) (cls : Fin 8)
  | srcTrim (chan : Fin 192) (code : Int) (cls : Fin 8)
  | groupTrim (group : Fin 32) (code : Int) (cls : Fin 8)
  | busLevel (bus : Fin 64) (code : Int) (cls : Fin 8)
  | srcMute (chan : Fin 192) (on : Bool)
  | busMute (bus : Fin 64) (on : Bool)
  | punchIn (slot : Fin 128)
  | punchOut (slot : Fin 128)
  deriving DecidableEq, Repr

structure AutoEvent where
  due : Position
  move : Move
  deriving DecidableEq, Repr

/-! ### The command channel (chapter 9) -/

/-- The receive framer: hunting, waiting for the length octet (the start octet held), or collecting the octets of a
message, held from the start octet onward (R152). -/
inductive Framer
  | hunt
  | length
  | body (held : List Octet)
  deriving DecidableEq, Repr

/-- The CONTROL record (R167). -/
structure Control where
  coalCount : Nat
  coalTimer : Nat
  lowMark : Nat
  holdThreshold : Nat
  deriving DecidableEq, Repr

inductive Traffic
  | notice | response
  deriving DecidableEq, Repr

/-- A message in transmission: what it is and the octets still to send (R160). -/
structure Tx where
  traffic : Traffic
  rest : List Octet
  deriving DecidableEq, Repr

/-- A lane transmitter: the notice copy waiting and the message in transmission (R160, R161). -/
structure Lane where
  waiting : Option (List Octet)
  tx : Option Tx
  deriving DecidableEq, Repr

/-! ### Flags, notices and counters (chapter 10) -/

inductive Steering
  | none | x | y | both
  deriving DecidableEq, Repr

inductive ClearMode
  | onReport | onWrite
  deriving DecidableEq, Repr

/-- A NOTICE record (R175). -/
structure NoticeRec where
  steer : Steering
  mode : ClearMode
  deriving DecidableEq, Repr

/-- The flag and notice block, the counter bank, the CONTROL record and the two lane transmitters: all that a set of an
item can reach (R174 to R179, R183). `timer` is none while stopped, else the engine frames still to run. -/
structure Report where
  items : Vector Bitmap 8
  notices : Vector NoticeRec 8
  control : Control
  unreported : Nat
  timer : Option Nat
  due : Bool
  counters : Vector Nat 84
  laneX : Lane
  laneY : Lane
  deriving DecidableEq, Repr

/-! ### The outbound composers (section 1.5) -/

/-- The results of one engine frame, held until they are sent (section 1.5, R20). -/
structure Held where
  pos : Position
  rolling : Bool
  x : Samples
  y : Samples
  deriving DecidableEq, Repr

/-- The pair of frames an engine frame sends (R19). -/
structure SentPair where
  x : SentFrame
  y : SentFrame
  deriving DecidableEq, Repr

/-- The whole machine. `pending` is the model's own queue of the commands that the world has sent and that no step has
taken yet; the command queue of R157 is `commands`. -/
structure State where
  links : Vector Receiver 4
  clock : Clock
  accept : Vector AcceptRec 16
  ingress : Vector Window 16
  chans : Vector Chan 192
  groups : Vector Group 32
  buses : Vector Bus 64
  matrix : Matrix
  window : MatrixWindow
  sweep : Sweep
  egress : Vector Slot 128
  tracker : Tracker
  queue : List AutoEvent
  framer : Framer
  commands : List Message
  responses : List Message
  report : Report
  heldOld : Held
  heldNew : Held
  sent : Option SentPair
  pending : List Instr
  deriving DecidableEq, Repr

/-! ### Start-up values -/

/-- R6, R7, R10, R22. -/
def Receiver.reset : Receiver := ⟨.absent, none, 0, 0, zeroSamples, idleBuffer⟩

/-- R43, R50, R65: after start-up every channel is link-muted. -/
def Chan.reset : Chan := ⟨standing 0, none, .normal, false, 3, standing (-960)⟩

/-- R48. -/
def Group.reset : Group := ⟨standing 0, 3⟩

/-- R66, R81, R111. -/
def Bus.reset : Bus := ⟨0, standing 0, false, 3, standing 0, false⟩

/-- R80. -/
def Xp.off : Xp := ⟨-960, -960, false⟩

/-- R70, R71, R80. -/
def Matrix.reset : Matrix := ⟨Vector.replicate 256 (Vector.replicate 64 Xp.off), [], []⟩

/-- R87: rows 0..255, columns 0..63, ROWS, both up, counter at (0, 0). -/
def MatrixWindow.reset : MatrixWindow := ⟨0, 255, 0, 63, .rows, .up, .up, 0, 0⟩

def Lane.reset : Lane := ⟨none, none⟩

/-- R167. -/
def Control.reset : Control := ⟨1, 0, 64, 4⟩

/-- R174, R175, R185: RESET/START_UP (class 7, item 0) is the only set item. -/
def Report.reset : Report :=
  { items := (Vector.replicate 8 (0#128)).set 7 1#128
    notices := Vector.replicate 8 ⟨.none, .onReport⟩
    control := Control.reset
    unreported := 0
    timer := none
    due := false
    counters := Vector.replicate 84 0
    laneX := Lane.reset
    laneY := Lane.reset }

/-- R20: both held results are silence at position 0, not rolling. -/
def Held.reset : Held := ⟨0, false, zeroSamples, zeroSamples⟩

/-- The machine right after a start-up reset, every field as its own rule gives it. -/
def State.reset : State :=
  { links := Vector.replicate 4 Receiver.reset
    clock := ⟨.free, [], false, none⟩
    accept := Vector.replicate 16 ⟨true, 1, 64⟩
    ingress := Vector.replicate 16 ⟨false, 0, 0, 0⟩
    chans := Vector.replicate 192 Chan.reset
    groups := Vector.replicate 32 Group.reset
    buses := Vector.replicate 64 Bus.reset
    matrix := Matrix.reset
    window := MatrixWindow.reset
    sweep := .idle
    egress := Vector.replicate 128 ⟨.off, 3⟩
    tracker := ⟨0, false⟩
    queue := []
    framer := .hunt
    commands := []
    responses := []
    report := Report.reset
    heldOld := Held.reset
    heldNew := Held.reset
    sent := none
    pending := [] }

end Sys2Proof.Machine
end

