-- ==== Sys2Proof/Machine/Flags.lean ====
section
/-! DEFINITION. Item flags, notices and counters (chapter 10, R161, R173): what a set of an item and an addition to a
counter do, whoever causes them. -/

namespace Sys2Proof.Machine

/-- The items of the eight classes (R174). -/
inductive Item
  | link (l : Link)
  | clock
  | clip (bus : Fin 64)
  | jump | late | deferred | refused | low
  | sweepDone | poolWait
  | punch (slot : Fin 128)
  | runt | long | check | dropped
  | counter (n : Fin 84)
  | startUp | engine
  deriving DecidableEq, Repr

/-- A, B, C, D in order (R38, R173). -/
def linkIdx : Link → Fin 4
  | .a => 0
  | .b => 1
  | .c => 2
  | .d => 3

/-- The class of an item (R174). -/
def itemClass : Item → Fin 8
  | .link _ => 0
  | .clock => 0
  | .clip _ => 1
  | .jump => 2
  | .late => 2
  | .deferred => 2
  | .refused => 2
  | .low => 2
  | .sweepDone => 3
  | .poolWait => 3
  | .punch _ => 4
  | .runt => 5
  | .long => 5
  | .check => 5
  | .dropped => 5
  | .counter _ => 6
  | .startUp => 7
  | .engine => 7

/-- The number of an item in its class (R173). -/
def itemIndex : Item → Nat
  | .link l => (linkIdx l).val
  | .clock => 4
  | .clip b => b.val
  | .jump => 0
  | .late => 1
  | .deferred => 2
  | .refused => 3
  | .low => 4
  | .sweepDone => 0
  | .poolWait => 1
  | .punch s => s.val
  | .runt => 0
  | .long => 1
  | .check => 2
  | .dropped => 3
  | .counter n => n.val
  | .startUp => 0
  | .engine => 1

/-- The octets of each class's bitmap (R173). -/
def bitmapSize (c : Fin 8) : Nat := [1, 8, 1, 1, 16, 1, 11, 1].getD c.val 0

def itemBit (i : Item) : Bitmap := 1#128 <<< itemIndex i

def Report.isSet (r : Report) (i : Item) : Bool := r.items[itemClass i].getLsbD (itemIndex i)

/-- A class carried on X, on Y (R175, R179). -/
def onX : Steering → Bool
  | .none => false
  | .x => true
  | .y => false
  | .both => true

def onY : Steering → Bool
  | .none => false
  | .x => false
  | .y => true
  | .both => true

/-- A notice copy waits or is in transmission on the lane (R161). -/
def Lane.hasNotice (l : Lane) : Bool :=
  l.waiting.isSome || (match l.tx with | some t => t.traffic == .notice | none => false)

/-- R161: a notice is in transmission while any of its copies waits or is in transmission. -/
def Report.noticeBusy (r : Report) : Bool := r.laneX.hasNotice || r.laneY.hasNotice

/-- The payload of one lane's copy: an entry for each class steered to it that holds a set item (R173, R179). -/
def Report.copyPayload (r : Report) (on : Steering → Bool) : List Octet :=
  (List.finRange 8).flatMap fun c =>
    if on r.notices[c].steer && r.items[c] != 0#128 then
      BitVec.ofNat 8 c.val :: bitmapOctets (bitmapSize c) r.items[c]
    else []

/-- One lane's copy, a message of kind 40h and tag 00h, or none (R173, R179). -/
def Report.copy (r : Report) (on : Steering → Bool) : Option (List Octet) :=
  if r.copyPayload on = [] then none else some (Message.octets ⟨0x40#8, 0#8, r.copyPayload on⟩)

/-- The items left after a report of class c: cleared in ON_REPORT, kept in ON_WRITE (R179, R180). -/
def NoticeRec.reported (n : NoticeRec) (b : Bitmap) : Bitmap := if n.mode = .onReport then 0#128 else b

/-- R179: the composition of a notice. -/
def Report.compose (r : Report) : Report :=
  { r with
    items := Vector.ofFn fun c =>
      if r.notices[c].steer = .none then r.items[c] else r.notices[c].reported r.items[c]
    unreported := 0
    timer := none
    due := false
    laneX := { r.laneX with waiting := r.copy onX }
    laneY := { r.laneY with waiting := r.copy onY } }

/-- R178: a notice becomes due, and is composed at once unless one is in transmission. The timer stops (R177). -/
def Report.becomeDue (r : Report) : Report :=
  let r1 := { r with timer := none, due := true }
  if r1.noticeBusy then r1 else r1.compose

/-- R178: at a notice's end a due notice is composed. -/
def Report.composeIfDue (r : Report) : Report := if r.due && !r.noticeBusy then r.compose else r

/-- R176, R177: one more unreported item. -/
def Report.addUnreported (r : Report) : Report :=
  let n := min 15 (r.unreported + 1)
  let r1 := { r with
    unreported := n
    timer := if r.unreported = 0 ∧ 1 ≤ r.control.coalTimer then some (r.control.coalTimer * 48) else r.timer }
  if r.control.coalCount ≤ n then r1.becomeDue else r1

/-- R174, R176: an item's cause sets it. -/
def Report.setItem (r : Report) (i : Item) : Report :=
  if r.isSet i then r
  else
    let r1 := { r with items := r.items.set (itemClass i) (r.items[itemClass i] ||| itemBit i) }
    if r.notices[itemClass i].steer = .none then r1 else r1.addUnreported

/-- R183: one addition to counter n; at 65,535 it stays; at half scale its item is set. -/
def Report.addCount (r : Report) (n : Fin 84) : Report :=
  if 65535 ≤ r.counters[n] then r
  else
    let r1 := { r with counters := r.counters.set n (r.counters[n] + 1) }
    if r.counters[n] + 1 = 32768 then r1.setItem (.counter n) else r1

/-- R183: an addition of several is that many additions of one. -/
def Report.addCounts (r : Report) (n : Fin 84) (k : Nat) : Report := Nat.repeat (fun r => r.addCount n) k r

/-- R177: an engine frame lowers a running timer, which expires at 0. -/
def Report.lowerTimer (r : Report) : Report :=
  match r.timer with
  | none => r
  | some n => if n ≤ 1 then r.becomeDue else { r with timer := some (n - 1) }

/-- R180: after READ_FLAGS has taken the bitmaps. -/
def Report.afterReadFlags (r : Report) : Report :=
  { r with
    items := Vector.ofFn fun c => r.notices[c].reported r.items[c]
    unreported := 0
    timer := none
    due := false }

/-- R181, R182: the named items of a class are cleared. -/
def Report.clearItems (r : Report) (c : Fin 8) (mask : Bitmap) : Report :=
  { r with items := r.items.set c (r.items[c] &&& ~~~mask) }

/-- R185: the engine reset in this block, before RESET/ENGINE is set. -/
def Report.wiped (r : Report) : Report :=
  { r with
    items := Vector.replicate 8 0#128
    unreported := 0
    timer := none
    due := false
    counters := Vector.replicate 84 0
    laneX := { r.laneX with waiting := none }
    laneY := { r.laneY with waiting := none } }

/-- R185: the engine reset in this block. -/
def Report.engineReset (r : Report) : Report := r.wiped.setItem .engine

/-- The flag summary octet: bit c set when class c holds a set item (R170, R174). -/
def Report.summary (r : Report) : Octet :=
  (List.finRange 8).foldl (fun o c => if r.items[c] = 0#128 then o else o ||| (1#8 <<< c.val)) 0#8

/-! ### The bank order of the counters (R183) -/

def badFramesOf : Link → Fin 84
  | .a => 0
  | .b => 2
  | .c => 5
  | .d => 8

def repeatsOf : Link → Fin 84
  | .a => 1
  | .b => 3
  | .c => 6
  | .d => 9

/-- Link A has no SLIPS counter. -/
def slipsOf : Link → Option (Fin 84)
  | .a => none
  | .b => some 4
  | .c => some 7
  | .d => some 10

def runtCount : Fin 84 := 11
def longCount : Fin 84 := 12
def badCheckCount : Fin 84 := 13
def droppedCount : Fin 84 := 14
def lateCount : Fin 84 := 15
def deferredCount : Fin 84 := 16
def flushedCount : Fin 84 := 17
def refusedCount : Fin 84 := 18
def rampsDelayedCount : Fin 84 := 19

/-- CLIP_COUNT of bus b is counter 20 + b. -/
def clipCountOf (b : Fin 64) : Fin 84 := ⟨20 + b.val, by omega⟩

/-- A SLIPS addition; none for link A. -/
def Report.addSlip (r : Report) (l : Link) : Report :=
  match slipsOf l with
  | none => r
  | some n => r.addCount n

end Sys2Proof.Machine
end

