-- ==== Sys2Proof/Machine/Gain.lean ====
section
/-! DEFINITION. Gain codes, multipliers and ramps (R56 to R64). -/

namespace Sys2Proof.Machine

/-- The multipliers of codes -818..-675 (R60). -/
def gainTable0 : List Nat :=
  [1, 1, 1, 1, 1, 1, 1, 1, 1, 1, 1, 1, 1, 1, 1, 1,
   1, 1, 1, 1, 1, 1, 1, 1, 1, 1, 1, 1, 1, 1, 1, 1,
   1, 1, 1, 1, 1, 1, 1, 1, 1, 1, 1, 1, 1, 1, 1, 1,
   1, 1, 1, 1, 1, 1, 1, 1, 1, 1, 1, 1, 1, 1, 1, 1,
   1, 1, 1, 1, 1, 1, 1, 1, 1, 1, 1, 1, 2, 2, 2, 2,
   2, 2, 2, 2, 2, 2, 2, 2, 2, 2, 2, 2, 2, 2, 2, 2,
   2, 2, 2, 2, 2, 2, 2, 2, 2, 2, 2, 2, 2, 2, 2, 2,
   3, 3, 3, 3, 3, 3, 3, 3, 3, 3, 3, 3, 3, 3, 3, 3,
   3, 3, 3, 3, 3, 3, 3, 4, 4, 4, 4, 4, 4, 4, 4, 4]

/-- The multipliers of codes -674..-531 (R60). -/
def gainTable1 : List Nat :=
  [4, 4, 4, 4, 4, 4, 4, 4, 5, 5, 5, 5, 5, 5, 5, 5,
   5, 5, 5, 5, 5, 5, 6, 6, 6, 6, 6, 6, 6, 6, 6, 6,
   6, 6, 7, 7, 7, 7, 7, 7, 7, 7, 7, 7, 8, 8, 8, 8,
   8, 8, 8, 8, 8, 9, 9, 9, 9, 9, 9, 9, 10, 10, 10, 10,
   10, 10, 10, 11, 11, 11, 11, 11, 11, 11, 12, 12, 12, 12, 12, 13,
   13, 13, 13, 13, 13, 14, 14, 14, 14, 14, 15, 15, 15, 15, 16, 16,
   16, 16, 16, 17, 17, 17, 17, 18, 18, 18, 18, 19, 19, 19, 20, 20,
   20, 20, 21, 21, 21, 22, 22, 22, 23, 23, 23, 24, 24, 24, 25, 25,
   25, 26, 26, 26, 27, 27, 28, 28, 28, 29, 29, 30, 30, 31, 31, 31]

/-- The multipliers of codes -530..-387 (R60). -/
def gainTable2 : List Nat :=
  [32, 32, 33, 33, 34, 34, 35, 35, 36, 36, 37, 37, 38, 38, 39, 40,
   40, 41, 41, 42, 43, 43, 44, 44, 45, 46, 46, 47, 48, 48, 49, 50,
   51, 51, 52, 53, 54, 54, 55, 56, 57, 58, 58, 59, 60, 61, 62, 63,
   64, 65, 66, 66, 67, 68, 69, 70, 71, 72, 74, 75, 76, 77, 78, 79,
   80, 81, 83, 84, 85, 86, 87, 89, 90, 91, 93, 94, 95, 97, 98, 99,
   101, 102, 104, 105, 107, 108, 110, 112, 113, 115, 117, 118, 120, 122, 123, 125,
   127, 129, 131, 133, 135, 137, 139, 141, 143, 145, 147, 149, 151, 153, 155, 158,
   160, 162, 165, 167, 169, 172, 174, 177, 179, 182, 185, 187, 190, 193, 196, 198,
   201, 204, 207, 210, 213, 216, 220, 223, 226, 229, 233, 236, 239, 243, 246, 250]

/-- The multipliers of codes -386..-243 (R60). -/
def gainTable3 : List Nat :=
  [254, 257, 261, 265, 269, 272, 276, 280, 284, 289, 293, 297, 301, 306, 310, 315,
   319, 324, 328, 333, 338, 343, 348, 353, 358, 363, 369, 374, 379, 385, 390, 396,
   402, 408, 414, 419, 426, 432, 438, 444, 451, 457, 464, 471, 478, 484, 491, 499,
   506, 513, 521, 528, 536, 544, 551, 559, 568, 576, 584, 593, 601, 610, 619, 628,
   637, 646, 655, 665, 674, 684, 694, 704, 714, 725, 735, 746, 757, 768, 779, 790,
   802, 813, 825, 837, 849, 861, 874, 887, 899, 912, 926, 939, 953, 967, 981, 995,
   1009, 1024, 1039, 1054, 1069, 1085, 1100, 1116, 1132, 1149, 1165, 1182, 1199, 1217, 1234, 1252,
   1271, 1289, 1308, 1327, 1346, 1365, 1385, 1405, 1426, 1446, 1467, 1488, 1510, 1532, 1554, 1577,
   1599, 1623, 1646, 1670, 1694, 1719, 1744, 1769, 1795, 1821, 1847, 1874, 1901, 1929, 1957, 1985]

/-- The multipliers of codes -242..-99 (R60). -/
def gainTable4 : List Nat :=
  [2014, 2043, 2072, 2102, 2133, 2164, 2195, 2227, 2259, 2292, 2325, 2359, 2393, 2428, 2463, 2499,
   2535, 2572, 2609, 2647, 2685, 2724, 2764, 2804, 2844, 2886, 2927, 2970, 3013, 3057, 3101, 3146,
   3191, 3238, 3285, 3332, 3380, 3429, 3479, 3530, 3581, 3633, 3685, 3739, 3793, 3848, 3904, 3960,
   4018, 4076, 4135, 4195, 4256, 4317, 4380, 4444, 4508, 4573, 4640, 4707, 4775, 4844, 4915, 4986,
   5058, 5131, 5206, 5281, 5358, 5435, 5514, 5594, 5675, 5757, 5841, 5926, 6011, 6099, 6187, 6277,
   6368, 6460, 6554, 6649, 6745, 6843, 6942, 7043, 7145, 7248, 7353, 7460, 7568, 7678, 7789, 7902,
   8016, 8133, 8250, 8370, 8491, 8614, 8739, 8866, 8995, 9125, 9257, 9391, 9528, 9666, 9806, 9948,
   10092, 10238, 10387, 10537, 10690, 10845, 11002, 11162, 11323, 11488, 11654, 11823, 11994, 12168, 12345, 12524,
   12705, 12889, 13076, 13266, 13458, 13653, 13851, 14052, 14255, 14462, 14672, 14884, 15100, 15319, 15541, 15766]

/-- The multipliers of codes -98..45 (R60). -/
def gainTable5 : List Nat :=
  [15995, 16227, 16462, 16701, 16943, 17188, 17437, 17690, 17947, 18207, 18471, 18738, 19010, 19285, 19565, 19849,
   20136, 20428, 20724, 21025, 21329, 21639, 21952, 22270, 22593, 22921, 23253, 23590, 23932, 24279, 24631, 24988,
   25350, 25718, 26090, 26469, 26852, 27241, 27636, 28037, 28443, 28856, 29274, 29698, 30129, 30565, 31008, 31458,
   31914, 32377, 32846, 33322, 33805, 34295, 34792, 35296, 35808, 36327, 36854, 37388, 37930, 38480, 39037, 39603,
   40177, 40760, 41350, 41950, 42558, 43175, 43801, 44435, 45080, 45733, 46396, 47068, 47751, 48443, 49145, 49857,
   50580, 51313, 52057, 52812, 53577, 54354, 55142, 55941, 56752, 57574, 58409, 59256, 60115, 60986, 61870, 62767,
   63677, 64600, 65536, 66486, 67450, 68427, 69419, 70425, 71446, 72482, 73533, 74598, 75680, 76777, 77890, 79019,
   80164, 81326, 82505, 83701, 84914, 86145, 87394, 88660, 89946, 91249, 92572, 93914, 95275, 96656, 98057, 99479,
   100921, 102383, 103868, 105373, 106901, 108450, 110022, 111617, 113235, 114876, 116541, 118231, 119944, 121683, 123447, 125236]

/-- The multipliers of codes 46..144 (R60). -/
def gainTable6 : List Nat :=
  [127052, 128893, 130762, 132657, 134580, 136531, 138510, 140517, 142554, 144621, 146717, 148844, 151001, 153190, 155410, 157663,
   159948, 162267, 164619, 167005, 169426, 171882, 174373, 176901, 179465, 182066, 184706, 187383, 190099, 192855, 195650, 198486,
   201363, 204282, 207243, 210247, 213295, 216386, 219523, 222705, 225933, 229208, 232531, 235901, 239321, 242790, 246309, 249879,
   253501, 257176, 260904, 264685, 268522, 272414, 276363, 280369, 284433, 288556, 292739, 296982, 301287, 305654, 310084, 314579,
   319139, 323765, 328458, 333219, 338049, 342949, 347920, 352964, 358080, 363270, 368536, 373878, 379297, 384795, 390373, 396032,
   401772, 407596, 413504, 419498, 425579, 431748, 438006, 444355, 450796, 457330, 463959, 470685, 477507, 484429, 491451, 498574,
   505801, 513133, 520571]

/-- The fixed table of 1,105 multipliers, for codes −960..+144; the codes −960..-819 have multiplier 0 (R60). -/
def gainTable : List Nat := List.replicate 142 0 ++ gainTable0 ++ gainTable1 ++ gainTable2 ++ gainTable3 ++ gainTable4 ++ gainTable5 ++ gainTable6

/-- G(e) by look-up in the table (R60); a code below −960 does not occur. -/
def gain (e : Int) : Nat := gainTable.getD (e + 960).toNat 0

/-- The code of "off" (R56). -/
def offCode : Int := -960

/-- A received code clamped into −960..+96, the range of every component that takes a written code (R56). -/
def clampCode (x : Int) : Int := clampInt (-960) 96 x

/-- The effective code of the components added: their exact sum clamped to −960..+144 (R57, R58). -/
def effective (codes : List Int) : Int := clampInt (-960) 144 codes.sum

/-- Off: a component stands at −960, or the clamped sum does (R59). -/
def isOff (codes : List Int) : Bool := codes.any (· == offCode) || effective codes == offCode

/-- The multiplier of an effective code: 0 when it is off, G of it otherwise (R59, R60). -/
def multiplier (codes : List Int) : Nat := if isOff codes then 0 else gain (effective codes)

/-- The product x × g scaled back to a sample and rounded half up (R106, R108, R119). -/
def scaleHalfUp (p : Int) : Int := (p + 32768) / 65536

/-- Ramp class lengths in engine frames (R61). -/
def rampLen (c : Fin 8) : Nat := [0, 48, 96, 240, 480, 960, 2400, 4800].getD c.val 0

/-- A ramp's current code (R62). -/
def Ramp.cur (r : Ramp) : Int :=
  if r.len ≤ r.k then r.target else r.start + ((r.target - r.start) * (r.k : Int)).tdiv (r.len : Int)

/-- One advance; a complete ramp does not advance further (R62). -/
def Ramp.advance (r : Ramp) : Ramp := if r.len ≤ r.k then r else { r with k := r.k + 1 }

/-- A new target over a length: the ramp begins again from its current code, or steps when the length is 0 (R63). -/
def Ramp.aim (r : Ramp) (t : Int) (len : Nat) : Ramp := if len = 0 then standing t else ⟨r.cur, t, len, 0⟩

/-- The ramp brought to its end (R54, R79). -/
def Ramp.settle (r : Ramp) : Ramp := standing r.target

/-- The components of a mute move over 480 engine frames on an operator's or bus's mute, 960 on the release of link mute
(R37, R51, R61, R68). -/
def muteLen : Nat := 480

def releaseLen : Nat := 960

/-- Apply a function to every element of a vector. -/
def mapAll {α β : Type} {n : Nat} (f : α → β) (v : Vector α n) : Vector β n := ⟨⟨v.toList.map f⟩, by simp⟩

end Sys2Proof.Machine
end

