-- ==== Sys2Proof/Machine/Ops.lean ====
section
/-! DEFINITION. The shared operations: crosspoints, pool and pending list; link mute; mutes and trims; punch requests;
the automation queue and what an applied event does. -/

namespace Sys2Proof.Machine

/-! ### Reports -/

def State.setItem (s : State) (i : Item) : State := { s with report := s.report.setItem i }

def State.addCount (s : State) (n : Fin 84) : State := { s with report := s.report.addCount n }

/-! ### Crosspoints, pool and pending list (R70 to R76) -/

def poolSize : Nat := 1024

def Matrix.cell (m : Matrix) (r : Fin 256) (c : Fin 64) : Xp := m.cells[r][c]

def Matrix.setCell (m : Matrix) (r : Fin 256) (c : Fin 64) (x : Xp) : Matrix :=
  { m with cells := m.cells.set r (m.cells[r].set c x) }

/-- The pool entry of a crosspoint, or none (R70). -/
def Matrix.entry (m : Matrix) (r : Fin 256) (c : Fin 64) : Option PoolEntry :=
  m.pool.find? fun e => e.row == r && e.col == c

def PoolEntry.isAt (e : PoolEntry) (r : Fin 256) (c : Fin 64) : Bool := e.row == r && e.col == c

def Waiting.isAt (w : Waiting) (r : Fin 256) (c : Fin 64) : Bool := w.row == r && w.col == c

/-- Row-major place of a crosspoint. -/
def xpKey (r : Fin 256) (c : Fin 64) : Nat := r.val * 64 + c.val

/-- A pool with entry `e` in it: in place of the crosspoint's own entry, else at its row-major place. -/
def insertEntry (e : PoolEntry) : List PoolEntry → List PoolEntry
  | [] => [e]
  | f :: rest =>
    if xpKey f.row f.col < xpKey e.row e.col then f :: insertEntry e rest
    else if f.isAt e.row e.col then e :: rest
    else e :: f :: rest

def Matrix.putEntry (m : Matrix) (e : PoolEntry) : Matrix := { m with pool := insertEntry e m.pool }

def Matrix.dropEntry (m : Matrix) (r : Fin 256) (c : Fin 64) : Matrix :=
  { m with pool := m.pool.filter fun e => !e.isAt r c }

/-- R76: one freed entry goes to the first crosspoint of the list whose current code differs from its target; those
before it leave the list without one. -/
def Matrix.handOutTo : List Waiting → Matrix → Matrix
  | [], m => { m with waiting := [] }
  | w :: ws, m =>
    let x := m.cell w.row w.col
    let m1 := m.setCell w.row w.col { x with pend := false }
    if x.cur = x.tgt then Matrix.handOutTo ws m1
    else { m1.putEntry ⟨w.row, w.col, ⟨x.cur, x.tgt, rampLen w.cls, 0⟩⟩ with waiting := ws }

/-- R76: the handing out of one freed entry. -/
def Matrix.handOut (m : Matrix) : Matrix := Matrix.handOutTo m.waiting m

/-- R72: a target with class 0. An entry that it frees at an automation application and that is handed out makes its first
advance in that frame's ramp advance (R64); R76 has it at the next engine frame (DESIGN CHOICE, log entry 26). -/
def Matrix.stepTo (m : Matrix) (r : Fin 256) (c : Fin 64) (t : Int) : Matrix :=
  let m1 := m.setCell r c ⟨t, t, false⟩
  match m.entry r c with
  | some _ => (m1.dropEntry r c).handOut
  | none => { m1 with waiting := m.waiting.filter fun w => !w.isAt r c }

/-- R73, fifth row: the crosspoint joins the tail of the pending list. -/
def Matrix.joins (m : Matrix) (r : Fin 256) (c : Fin 64) (t : Int) : Bool :=
  (m.entry r c).isNone && !(m.cell r c).pend && (m.cell r c).cur != t && decide (poolSize ≤ m.pool.length)

/-- R73: a target with a class of 1..7. -/
def Matrix.rampTo (m : Matrix) (r : Fin 256) (c : Fin 64) (t : Int) (n : Fin 8) : Matrix :=
  let x := m.cell r c
  let m1 := m.setCell r c { x with tgt := t }
  match m.entry r c with
  | some _ => m1.putEntry ⟨r, c, ⟨x.cur, t, rampLen n, 0⟩⟩
  | none =>
    if x.pend then { m1 with waiting := m.waiting.map fun w => if w.isAt r c then { w with cls := n } else w }
    else if x.cur = t then m1
    else if m.pool.length < poolSize then m1.putEntry ⟨r, c, ⟨x.cur, t, rampLen n, 0⟩⟩
    else { m.setCell r c { x with tgt := t, pend := true } with waiting := m.waiting ++ [⟨r, c, n⟩] }

/-- A new target under the pool rules (R72 for class 0, R73 for classes 1..7). -/
def Matrix.write (m : Matrix) (r : Fin 256) (c : Fin 64) (t : Int) (n : Fin 8) : Matrix :=
  if n = 0 then m.stepTo r c t else m.rampTo r c t n

/-- R74: what a join reports. -/
def Report.afterJoin (rep : Report) (listWasEmpty : Bool) : Report :=
  let rep1 := rep.addCount rampsDelayedCount
  if listWasEmpty then rep1.setItem .poolWait else rep1

/-- A crosspoint write: pool rules and their report (R72, R73, R74). -/
def State.writeXp (s : State) (r : Fin 256) (c : Fin 64) (t : Int) (n : Fin 8) : State :=
  { s with
    matrix := s.matrix.write r c t n
    report :=
      if n ≠ 0 ∧ s.matrix.joins r c t = true then s.report.afterJoin s.matrix.waiting.isEmpty else s.report }

/-- R82: an input-row crosspoint is legal; a bus-row one when its row's tier is below its column's. -/
def State.legal (s : State) (r : Fin 256) (c : Fin 64) : Bool :=
  if h : r.val < 192 then true else decide (s.buses[r.val - 192].tier < s.buses[c].tier)

/-- R82: non-off by current or target code, and by nothing else: a crosspoint at −960 with target −960 counts as off although
an entry or a pending place is still its own (DESIGN CHOICE, log entry 25). -/
def Xp.nonOff (x : Xp) : Bool := x.cur != offCode || x.tgt != offCode

/-- R75: an entry whose advance brings k to L: its crosspoint stands at its target, and the entry is freed and handed
out. -/
def Matrix.completeEntry (m : Matrix) (e : PoolEntry) : Matrix :=
  ((m.setCell e.row e.col { m.cell e.row e.col with cur := e.ramp.target }).dropEntry e.row e.col).handOut

/-- The entry's next advance completes it (R75). -/
def PoolEntry.lastStep (e : PoolEntry) : Bool := decide (e.ramp.len ≤ e.ramp.k + 1)

/-- R75: one entry's step of the ramp advance. -/
def Matrix.advanceEntry (m : Matrix) (e : PoolEntry) : Matrix :=
  if e.lastStep then m.completeEntry e
  else
    let e1 : PoolEntry := { e with ramp := e.ramp.advance }
    (m.setCell e.row e.col { m.cell e.row e.col with cur := e1.ramp.cur }).putEntry e1

/-- R75: every entry in use at the start of the advance makes one step; an entry handed out in it makes none. -/
def Matrix.advance (m : Matrix) : Matrix := m.pool.foldl Matrix.advanceEntry m

/-! ### Link mute (R36, R37, R39) -/

/-- Window w covers channel i (R38). -/
def Window.covers (w : Window) (i : Nat) : Bool :=
  w.enabled && decide (w.chan ≤ i ∧ i ≤ w.chan + (w.last - w.first))

/-- The enabled window that feeds a channel (R38, R39). -/
def feeder (ingress : Vector Window 16) (i : Fin 192) : Option (Fin 16) :=
  (List.finRange 16).find? fun w => ingress[w].covers i.val

/-- The link a window belongs to, as an index: windows 0..3 A, 4..7 B, 8..11 C, 12..15 D (R38). -/
def windowLink (w : Fin 16) : Fin 4 := ⟨w.val / 4, by omega⟩

/-- R36: no enabled window feeds the channel, or the one that does belongs to a link that is not ACCEPTED. -/
def linkMuted (ingress : Vector Window 16) (links : Vector Receiver 4) (i : Fin 192) : Bool :=
  match feeder ingress i with
  | none => true
  | some w => links[windowLink w].state != .accepted

def State.muted (s : State) (i : Fin 192) : Bool := linkMuted s.ingress s.links i

/-- R37: what a change of link mute does to the mute component. -/
def Chan.linkMuteChange (c : Chan) (before after : Bool) : Chan :=
  if !before && after then { c with mute := standing offCode }
  else if before && !after && !c.opMute then { c with mute := c.mute.aim 0 releaseLen }
  else c

/-- R36, R42: link mute is evaluated again for every channel against the windows and link states as they were. -/
def State.reviewMutes (s : State) (ingress : Vector Window 16) (links : Vector Receiver 4) : State :=
  { s with chans := Vector.ofFn fun i => s.chans[i].linkMuteChange (linkMuted ingress links i) (s.muted i) }

/-! ### Trims, levels and mutes (R45, R49, R51, R67, R68) -/

/-- R51: the operator mute given a value, the channel being link-muted or not. Set at −960 right after a release of link mute,
it begins a ramp that stands still at −960, where R52 has no ramp (DESIGN CHOICE, log entry 23). -/
def Chan.setOpMute (c : Chan) (on linkMuted : Bool) : Chan :=
  if c.opMute = on then c
  else if linkMuted then { c with opMute := on }
  else { c with opMute := on, mute := c.mute.aim (if on then offCode else 0) muteLen }

/-- R68: the bus mute given a value. -/
def Bus.setMute (b : Bus) (on : Bool) : Bus :=
  if b.muted = on then b else { b with muted := on, muteRamp := b.muteRamp.aim (if on then offCode else 0) muteLen }

def State.setChan (s : State) (i : Fin 192) (c : Chan) : State := { s with chans := s.chans.set i c }

def State.setGroup (s : State) (i : Fin 32) (g : Group) : State := { s with groups := s.groups.set i g }

def State.setBus (s : State) (i : Fin 64) (b : Bus) : State := { s with buses := s.buses.set i b }

/-! ### Punch requests (R122, R123, R125) -/

/-- The slot's crossfade length (R120). -/
def Slot.len (t : Slot) : Nat := rampLen t.cls

/-- R122 (into live) and R123 (out to replay): what a request makes of a slot's use. -/
def Slot.requested (t : Slot) (into : Bool) : SlotUse :=
  match t.use with
  | .punch b p .replay k =>
    if into then (if t.len = 0 then .punch b p .live k else .punch b p .toLive k) else t.use
  | .punch b p .toReplay k => if into then .punch b p .toLive k else t.use
  | .punch b p .live k =>
    if into then t.use else (if t.len = 0 then .punch b p .replay k else .punch b p .toReplay k)
  | .punch b p .toLive k => if into then t.use else .punch b p .toReplay k
  | .off => .off
  | .bus b => .bus b
  | .direct c => .direct c

/-- R125: a request to a slot of length 0 that changes its state is an arrival at once. -/
def Slot.arrivesAtRequest (t : Slot) (into : Bool) : Bool :=
  match t.use with
  | .punch _ _ .replay _ => into && t.len == 0
  | .punch _ _ .live _ => !into && t.len == 0
  | .punch _ _ .toLive _ => false
  | .punch _ _ .toReplay _ => false
  | .off => false
  | .bus _ => false
  | .direct _ => false

def Slot.isPunch (t : Slot) : Bool :=
  match t.use with
  | .punch _ _ _ _ => true
  | .off => false
  | .bus _ => false
  | .direct _ => false

/-- A request to slot i (R122, R123). -/
def State.punchRequest (s : State) (i : Fin 128) (into : Bool) : State :=
  { s with
    egress := s.egress.set i { s.egress[i] with use := s.egress[i].requested into }
    report := if s.egress[i].arrivesAtRequest into then s.report.setItem (.punch i) else s.report }

/-- R124: the punch advance of one slot's use. -/
def Slot.advanced (t : Slot) : SlotUse :=
  match t.use with
  | .punch b p .toLive k =>
    let k1 := if k < t.len then k + 1 else k
    if k1 = t.len then .punch b p .live k1 else .punch b p .toLive k1
  | .punch b p .toReplay k => if k - 1 = 0 then .punch b p .replay 0 else .punch b p .toReplay (k - 1)
  | .punch b p .live k => .punch b p .live k
  | .punch b p .replay k => .punch b p .replay k
  | .off => .off
  | .bus b => .bus b
  | .direct c => .direct c

/-- R124: the slot's next advance makes it arrive. -/
def Slot.arrives (t : Slot) : Bool :=
  match t.use with
  | .punch _ _ .toLive k => (if k < t.len then k + 1 else k) == t.len
  | .punch _ _ .toReplay k => k - 1 == 0
  | .punch _ _ .live _ => false
  | .punch _ _ .replay _ => false
  | .off => false
  | .bus _ => false
  | .direct _ => false

/-- R124: the punch advance of slot i. -/
def State.advanceSlot (s : State) (i : Fin 128) : State :=
  { s with
    egress := s.egress.set i { s.egress[i] with use := s.egress[i].advanced }
    report := if s.egress[i].arrives then s.report.setItem (.punch i) else s.report }

/-! ### The automation queue (R135 to R149) -/

def queueSize : Nat := 512

/-- R137: after every event due at or before it, before every event due after it. -/
def insertEvent (e : AutoEvent) : List AutoEvent → List AutoEvent
  | [] => [e]
  | f :: rest => if f.due ≤ e.due then f :: insertEvent e rest else e :: f :: rest

/-- R148: judged once for a removal, on the count before it. -/
def State.judgeLow (s : State) (before : Nat) : State :=
  { s with
    report :=
      if s.report.control.lowMark < before ∧ s.queue.length ≤ s.report.control.lowMark then s.report.setItem .low
      else s.report }

/-- R94, R128: an event its owner discards. -/
def State.refuseEvent (s : State) : State :=
  { s with report := (s.report.addCount refusedCount).setItem .refused }

/-- R143: an event applied by the block that owns what it moves (R55, R69, R94, R128). -/
def State.applyMove (s : State) : Move → State
  | .xpTarget r c code n => if s.legal r c || code == offCode then s.writeXp r c code n else s.refuseEvent
  | .srcTrim i code n => s.setChan i { s.chans[i] with trim := s.chans[i].trim.aim code (rampLen n) }
  | .groupTrim i code n => s.setGroup i { s.groups[i] with trim := s.groups[i].trim.aim code (rampLen n) }
  | .busLevel i code n => s.setBus i { s.buses[i] with level := s.buses[i].level.aim code (rampLen n) }
  | .srcMute i on => s.setChan i (s.chans[i].setOpMute on (s.muted i))
  | .busMute i on => s.setBus i (s.buses[i].setMute on)
  | .punchIn i => if s.egress[i].isPunch then s.punchRequest i true else s.refuseEvent
  | .punchOut i => if s.egress[i].isPunch then s.punchRequest i false else s.refuseEvent

/-- R135, R149: every event is discarded and counted in FLUSHED. -/
def State.flush (s : State) : State :=
  { s with queue := [], report := s.report.addCounts flushedCount s.queue.length }

/-! ### The matrix clear sweep (R95 to R97) -/

/-- Crosspoint n of the row-major order (R96). -/
def xpOf (n : Fin 16384) : Fin 256 × Fin 64 := (⟨n.val / 64, by omega⟩, ⟨n.val % 64, by omega⟩)

def sweepStep : Nat := 128

/-- The visits of one engine frame, from crosspoint `from` on (R96). -/
def State.visit (s : State) (cls : Fin 8) (first : Nat) : State :=
  (List.range sweepStep).foldl
    (fun s j => if h : first + j < 16384 then
        s.writeXp (xpOf ⟨first + j, h⟩).1 (xpOf ⟨first + j, h⟩).2 offCode cls
      else s) s

/-- R96, R97: an engine frame's visits, and the completion when they reach row 255. -/
def State.sweepVisits (s : State) : State :=
  match s.sweep with
  | .idle => s
  | .inFlight cls left =>
    let s1 := s.visit cls (16384 - left)
    if left ≤ sweepStep then { s1 with sweep := .idle, report := s1.report.setItem .sweepDone }
    else { s1 with sweep := .inFlight cls (left - sweepStep) }

def Sweep.left : Sweep → Nat
  | .idle => 0
  | .inFlight _ n => n

def Sweep.busy : Sweep → Bool
  | .idle => false
  | .inFlight _ _ => true

end Sys2Proof.Machine
end

