-- ==== Sys2Proof/Machine/Channel.lean ====
section
/-! DEFINITION. The receive framer and the command queue's tail (R152 to R156). -/

namespace Sys2Proof.Machine

def channelSize : Nat := 16

/-- R156: a valid message joins the tail of the command queue, or is dropped when the queue is full. -/
def State.joinMessage (s : State) (m : Message) : State :=
  if s.commands.length < channelSize then { s with commands := s.commands ++ [m] }
  else { s with report := (s.report.addCount droppedCount).setItem .dropped }

/-- The message that a complete run of held octets carries, or none when its check fails (R154). -/
def heldMessage (held : List Octet) : Option Message :=
  let n := held.length
  if crc16 ((held.drop 1).take (n - 3)) = word16 (held.getD (n - 2) 0) (held.getD (n - 1) 0) then
    some ⟨held.getD 2 0, held.getD 3 0, (held.drop 4).take (n - 6)⟩
  else none

/-- R153, R154, R155: a message abandoned for its check. -/
def State.failCheck (s : State) : State :=
  { s with framer := .hunt, report := (s.report.addCount badCheckCount).setItem .check }

/-- R152: what one octet makes of the framer's state before a message is complete. -/
def State.frameOctet (s : State) (o : Octet) : State :=
  match s.framer with
  | .hunt => if o = 0xC3#8 then { s with framer := .length } else s
  | .length =>
    if o.toNat < 6 then { s with framer := .hunt, report := (s.report.addCount runtCount).setItem .runt }
    else if 64 < o.toNat then { s with framer := .hunt, report := (s.report.addCount longCount).setItem .long }
    else { s with framer := .body [0xC3#8, o] }
  | .body held => { s with framer := .body (held ++ [o]) }

/-- R152: the octets of a message are all held. -/
def Framer.complete : Framer → Option (List Octet)
  | .hunt => none
  | .length => none
  | .body held => if held.length = (held.getD 1 0).toNat then some held else none

/-- R154: a complete message is judged. When its check fails, the octets to be examined again, from the one after the
length octet on, are handed back with the state. -/
def State.judge (s : State) : State × List Octet :=
  match s.framer.complete with
  | none => (s, [])
  | some held =>
    match heldMessage held with
    | some m => ({ s with framer := .hunt }.joinMessage m, [])
    | none => (s.failCheck, held.drop 2)

/-- The framer takes octets in order; held octets to be examined again go before those still to come (R152, R154). Each
octet taken or message failed lowers the fuel, of which `frameFuel` is always enough. -/
def State.frameOctets : Nat → List Octet → State → State
  | 0, _, s => s
  | _ + 1, [], s => s
  | n + 1, o :: rest, s =>
    let j := (s.frameOctet o).judge
    State.frameOctets n (j.2 ++ rest) j.1

/-- The octets the framer holds. -/
def Framer.heldCount : Framer → Nat
  | .hunt => 0
  | .length => 1
  | .body held => held.length

/-- With t octets held or to come, every octet is taken in t × t + 2t steps: a failed message gives up two octets for
good. -/
def frameFuel (t : Nat) : Nat := t * t + 2 * t + 1

/-- R152: the framer takes the octets of a lane word. -/
def State.takeLane (s : State) (lane : List Octet) : State :=
  State.frameOctets (frameFuel (s.framer.heldCount + lane.length)) lane s

/-- R155: a failed frame of link A hands the framer a break. -/
def State.frameBreak (s : State) : State :=
  match s.framer with
  | .hunt => s
  | .length => s.failCheck
  | .body _ => s.failCheck

end Sys2Proof.Machine
end

