-- ==== Sys2Proof/Machine/Links.lean ====
section
/-! DEFINITION. The link receivers, the elastic buffers, the clock's two states and the rate measurement (chapters 1
and 2). What an event of a receiver does before any engine frame it makes. -/

namespace Sys2Proof.Machine

def State.link (s : State) (l : Link) : Receiver := s.links[linkIdx l]

def State.setLink (s : State) (l : Link) (r : Receiver) : State := { s with links := s.links.set (linkIdx l) r }

/-! ### The rate of link A (R17) -/

/-- The reciprocal of the mean of the intervals, limited to 44,000..50,000 frames per second (R17). -/
def measuredRate (kept : List Nat) : Rate :=
  let num := kept.length * Config.ticksPerSecond
  let den := kept.sum
  if num < 44000 * den then ⟨44000, 1⟩ else if 50000 * den < num then ⟨50000, 1⟩ else ⟨num, den⟩

/-- An arrival of link A in LOCKED ends an interval, kept unless it may not be, and begins the next (R17). -/
def Clock.arrival (k : Clock) (interval : Nat) : Clock :=
  if k.running then
    let kept := (interval :: k.kept).take 64
    { k with kept := kept, rate := some (measuredRate kept) }
  else { k with running := true }

/-- An interval that contains a missing-frame declaration is not kept (R17). -/
def Clock.missed (k : Clock) : Clock := { k with running := false }

/-- The rate at which the oscillator runs and missing frames are timed: 48,000 until one has been measured (R5, R16). -/
def Clock.currentRate (k : Clock) : Rate := k.rate.getD ⟨48000, 1⟩

/-! ### The clock's states (R14, R134) -/

/-- FREE to LOCKED; an arrival that does it begins an interval that may be kept (R14, R17). -/
def State.lock (s : State) (byArrival : Bool) : State :=
  { s with
    clock := { s.clock with state := .locked, kept := [], running := byArrival }
    report := s.report.setItem .clock }

/-- LOCKED to FREE: the intervals are discarded, the rate stands, the transport is stopped (R14, R17, R134). -/
def State.unlock (s : State) : State :=
  { s with
    clock := { s.clock with state := .free, kept := [], running := false }
    tracker := { s.tracker with rolling := false }
    report := s.report.setItem .clock }

/-! ### Elastic buffers (R10, R11) -/

def elasticDepth : Nat := 4

def BufFrame.samples : BufFrame → Samples
  | .received x => x
  | .repeated x => x

/-- A frame joins; a full buffer loses its oldest first; two frames make a priming buffer run (R10, R11). -/
def Elastic.join (b : Elastic) (f : BufFrame) : Elastic :=
  let frames := (if elasticDepth ≤ b.frames.length then b.frames.drop 1 else b.frames) ++ [f]
  { b with frames := frames, state := if b.state = .priming ∧ 2 ≤ frames.length then .running else b.state }

/-- R11: a join at link l; a slip when the buffer was full. -/
def State.joinBuffer (s : State) (l : Link) (f : BufFrame) : State :=
  { s.setLink l { s.link l with buf := (s.link l).buf.join f } with
    report := if elasticDepth ≤ (s.link l).buf.frames.length then s.report.addSlip l else s.report }

/-- A buffer emptied and priming, with the frame that completed the classification if one did (R10, R34). -/
def primed : Option BufFrame → Elastic
  | none => ⟨.priming, [], zeroSamples⟩
  | some f => ⟨.priming, [f], zeroSamples⟩

/-! ### Changes of link state (R14, R27 to R31, R34) -/

/-- The acceptance test (R26). -/
def admits (accept : Vector AcceptRec 16) (a : Announcement) : Bool :=
  let e := accept[a.cls]
  e.accept && decide (e.min ≤ a.slots ∧ a.slots ≤ e.max)

/-- The buffer of a link that enters state `st`, link A having none. -/
def bufferOn (l : Link) (st : LinkState) (via : Option BufFrame) : Elastic :=
  if l = .a then idleBuffer else if st = .accepted then primed via else idleBuffer

/-- The clock follows link A (R14): `was` and `st` are A's states before and after. -/
def State.clockFollows (s : State) (l : Link) (was st : LinkState) (byArrival : Bool) : State :=
  if l = .a ∧ was ≠ .accepted ∧ st = .accepted then s.lock byArrival
  else if l = .a ∧ was = .accepted ∧ st ≠ .accepted then s.unlock
  else s

/-- A link goes to another state: its LINK item (R31), its buffer (R10), the clock (R14), link mute (R36). An entry into
ACCEPTED by a classifying frame brings that frame (R27); one by a table write brings none (R34). -/
def State.moveLink (s : State) (l : Link) (st : LinkState) (via : Option BufFrame) : State :=
  let was := (s.link l).state
  if was = st then s
  else
    let s1 := (s.setLink l { s.link l with state := st, buf := bufferOn l st via }).setItem (.link l)
    (s1.clockFollows l was st via.isSome).reviewMutes s.ingress s.links

/-- The eighth failed frame (R25, R28, R30): the link goes to ABSENT. -/
def State.loseLink (s : State) (l : Link) : State :=
  (s.setLink l { s.link l with ann := none, run := 0, badRun := 0, lastGood := zeroSamples }).moveLink l .absent none

def loseAt : Nat := 8
def senseRun : Nat := 16

/-- R26: the link is classified by its recorded announcement. -/
def State.classify (s : State) (l : Link) (via : BufFrame) : State :=
  match (s.link l).ann with
  | none => s
  | some a => s.moveLink l (if admits s.accept a then .accepted else .rejected) (some via)

/-- R24: a passing frame in SENSING. -/
def State.senseFrame (s : State) (l : Link) (f : LinkFrame) : State :=
  let r := s.link l
  let run := if 1 ≤ r.run ∧ r.ann = some f.ann then r.run + 1 else 1
  let s1 := s.setLink l { r with ann := some f.ann, run := run, badRun := 0, lastGood := f.samples }
  if run = senseRun then s1.classify l (.received f.samples) else s1

/-- R23, R29, R30: a passing frame that takes the link to SENSING with run count 1. -/
def State.beginSensing (s : State) (l : Link) (f : LinkFrame) : State :=
  (s.setLink l { s.link l with ann := some f.ann, run := 1, badRun := 0, lastGood := f.samples }).moveLink l
    .sensing none

/-- R28, R30: an ordinary passing frame with the recorded announcement. -/
def State.keepFrame (s : State) (l : Link) (f : LinkFrame) : State :=
  s.setLink l { s.link l with badRun := 0, lastGood := f.samples }

/-- What a passing frame does to its link (R23, R24, R28, R29, R30). -/
def State.receive (s : State) (l : Link) (f : LinkFrame) : State :=
  match (s.link l).state with
  | .absent => s.beginSensing l f
  | .sensing => s.senseFrame l f
  | .accepted =>
    if (s.link l).ann = some f.ann then
      (if l = .a then s.keepFrame l f else (s.keepFrame l f).joinBuffer l (.received f.samples))
    else s.beginSensing l f
  | .rejected => if (s.link l).ann = some f.ann then s.keepFrame l f else s.beginSensing l f

/-- A failed frame in SENSING or REJECTED (R25, R30): `run` is the run count it leaves. -/
def State.failQuiet (s : State) (l : Link) (run : Nat) : State :=
  if loseAt ≤ (s.link l).badRun + 1 then s.loseLink l
  else s.setLink l { s.link l with run := run, badRun := (s.link l).badRun + 1 }

/-- The counting of a repeat, and the repeat frame's joining (R8, R11). -/
def State.repeatFrame (s : State) (l : Link) : State :=
  let s1 := s.addCount (repeatsOf l)
  if l = .a then s1 else s1.joinBuffer l (.repeated (s1.link l).lastGood)

/-- A failed frame in ACCEPTED (R8, R11, R28). -/
def State.failAccepted (s : State) (l : Link) (bad : Bool) : State :=
  let s1 := if bad then s.addCount (badFramesOf l) else s
  if loseAt ≤ (s.link l).badRun + 1 then s1.loseLink l
  else (s1.setLink l { s.link l with badRun := (s.link l).badRun + 1 }).repeatFrame l

/-- What a bad or missing frame does to its link, the framer's break apart (R23, R25, R28, R30). -/
def State.failFrame (s : State) (l : Link) (bad : Bool) : State :=
  match (s.link l).state with
  | .absent => s
  | .sensing => s.failQuiet l 0
  | .accepted => s.failAccepted l bad
  | .rejected => s.failQuiet l (s.link l).run

/-- R9, R155: link A's failed frame hands the framer a break unless the link was ABSENT. -/
def State.breakLane (s : State) (l : Link) (was : LinkState) : State :=
  if l = .a ∧ was ≠ .absent then s.frameBreak else s

/-- R17: an arrival of link A in LOCKED, the clock having been LOCKED before the event and after it. -/
def State.noteArrival (s : State) (l : Link) (before : ClockState) (interval : Nat) : State :=
  if l = .a ∧ before = .locked ∧ s.clock.state = .locked then { s with clock := s.clock.arrival interval } else s

/-- R17: a missing-frame declaration of link A spoils the interval it falls in. -/
def State.noteMissed (s : State) (l : Link) : State :=
  if l = .a then { s with clock := s.clock.missed } else s

/-- R33, R34: a link of a written class is classified again; no frame comes with the entry. -/
def State.reclassify (s : State) (written : List Nat) (l : Link) : State :=
  match (s.link l).ann with
  | none => s
  | some a =>
    if ((s.link l).state = .accepted ∨ (s.link l).state = .rejected) ∧ a.cls.val ∈ written then
      s.moveLink l (if admits s.accept a then .accepted else .rejected) none
    else s

end Sys2Proof.Machine
end

