-- ==== Sys2Proof/Machine/Outbound.lean ====
section
/-! DEFINITION. The lane transmitters and the outbound composers (R19 to R21, R157, R160, R161). -/

namespace Sys2Proof.Machine

/-- R157: 16 less the messages queued. -/
def State.room (s : State) : Nat := channelSize - s.commands.length

/-- R157: HOLD is carried when room is at or below the hold threshold. -/
def State.hold (s : State) : Bool := decide (s.room ≤ s.report.control.holdThreshold)

/-- R160: the message a lane sends from at this composition, if any: the one in transmission, else a waiting notice copy,
else, where the lane carries responses, the oldest response. -/
def Lane.current (l : Lane) (responses : List Message) : Option Tx :=
  match l.tx with
  | some t => some t
  | none =>
    match l.waiting with
    | some n => some ⟨.notice, n⟩
    | none =>
      match responses with
      | [] => none
      | m :: _ => some ⟨.response, m.octets⟩

/-- R21: the lane word, padded with 00h. -/
def laneWord (t : Option Tx) : List Octet :=
  match t with
  | none => [0#8, 0#8, 0#8, 0#8]
  | some t => (t.rest ++ [0#8, 0#8, 0#8, 0#8]).take 4

/-- R160: the lane after the word: the rest of the message, or idle when the word held its last octets. -/
def Lane.after (l : Lane) (responses : List Message) : Lane :=
  match l.current responses with
  | none => l
  | some t =>
    { waiting := if l.tx.isNone then none else l.waiting
      tx := if t.rest.length ≤ 4 then none else some ⟨t.traffic, t.rest.drop 4⟩ }

/-- R159: the word holds the last octets of a response. -/
def Lane.endsResponse (l : Lane) (responses : List Message) : Bool :=
  match l.current responses with
  | none => false
  | some t => t.traffic == .response && decide (t.rest.length ≤ 4)

/-- R19: one outbound frame of the held results. -/
def State.outFrame (s : State) (ident : Octet) (samples : Samples) (lane : List Octet) : SentFrame :=
  { cls := 1
    rolling := s.heldOld.rolling
    hold := s.hold
    locked := decide (s.clock.state = .locked)
    slots := 64
    ident := ident
    pos := s.heldOld.pos
    samples := samples
    lane := lane
    summary := s.report.summary }

/-- R19, R21, R159, R160, R178: at an engine frame X and Y each send a frame of the older held results; a response whose
last octets went out leaves its queue; and a due notice is composed when the notice in transmission has ended. -/
def State.compose (s : State) : State :=
  { s with
    sent := some
      { x := s.outFrame 0 s.heldOld.x (laneWord (s.report.laneX.current s.responses))
        y := s.outFrame 1 s.heldOld.y (laneWord (s.report.laneY.current [])) }
    responses := if s.report.laneX.endsResponse s.responses then s.responses.drop 1 else s.responses
    report :=
      { s.report with
        laneX := s.report.laneX.after s.responses
        laneY := s.report.laneY.after [] }.composeIfDue }

/-- Section 1.5: the results of an engine frame join those the composers hold. -/
def State.holdResults (s : State) (x y : Samples) : State :=
  { s with heldOld := s.heldNew, heldNew := ⟨s.tracker.pos, s.tracker.rolling, x, y⟩ }

end Sys2Proof.Machine
end

