-- ==== Sys2Proof/Machine/Operands.lean ====
section
/-! DEFINITION. Operand forms: statuses, indexes, automation event records, and the records of the table spaces (R136,
R162, R171, R172). -/

namespace Sys2Proof.Machine

/-- The nine response statuses (R162). -/
inductive Status
  | ok | partialDone | busy | range | tier | overlap | qfull | badKind | badLen
  deriving DecidableEq, Repr

/-- The status octet (R171). -/
def Status.octet : Status → Octet
  | .ok => 0x00#8
  | .partialDone => 0x01#8
  | .busy => 0x02#8
  | .range => 0x03#8
  | .tier => 0x04#8
  | .overlap => 0x05#8
  | .qfull => 0x06#8
  | .badKind => 0x07#8
  | .badLen => 0x08#8

/-- An index below n, or none. -/
def index? (n x : Nat) : Option (Fin n) := if h : x < n then some ⟨x, h⟩ else none

def octet (n : Nat) : Octet := BitVec.ofNat 8 n

/-! ### Automation event records (R136, R138, R171) -/

def onOff? (o : Octet) : Option Bool := if o = 0#8 then some false else if o = 1#8 then some true else none

/-- The move of an event record: kind, first index, second index, code, and the class or the on or off setting; none for
what R138 refuses with RANGE. The code is clamped. -/
def readMove (kind i1 i2 hi lo last : Octet) : Option Move :=
  let code := clampCode (signed16 hi lo)
  match kind.toNat with
  | 1 => do
    let r ← index? 256 i1.toNat
    let c ← index? 64 i2.toNat
    let n ← index? 8 last.toNat
    some (.xpTarget r c code n)
  | 2 => do
    let i ← index? 192 i1.toNat
    let n ← index? 8 last.toNat
    some (.srcTrim i code n)
  | 3 => do
    let i ← index? 32 i1.toNat
    let n ← index? 8 last.toNat
    some (.groupTrim i code n)
  | 4 => do
    let i ← index? 64 i1.toNat
    let n ← index? 8 last.toNat
    some (.busLevel i code n)
  | 5 => do
    let i ← index? 192 i1.toNat
    let on ← onOff? last
    some (.srcMute i on)
  | 6 => do
    let i ← index? 64 i1.toNat
    let on ← onOff? last
    some (.busMute i on)
  | 7 => do
    let i ← index? 128 i1.toNat
    some (.punchIn i)
  | 8 => do
    let i ← index? 128 i1.toNat
    some (.punchOut i)
  | _ => none

/-- An event record of ten octets (R171). -/
def readEvent (o : List Octet) : Option AutoEvent :=
  (readMove (o.getD 4 0) (o.getD 5 0) (o.getD 6 0) (o.getD 7 0) (o.getD 8 0) (o.getD 9 0)).map fun m =>
    ⟨word32 (o.getD 0 0) (o.getD 1 0) (o.getD 2 0) (o.getD 3 0), m⟩

/-- A list cut into runs of n + 1 octets; a short run at the end stays as it is. -/
def cutInto (n : Nat) : Nat → List Octet → List (List Octet)
  | 0, _ => []
  | _ + 1, [] => []
  | fuel + 1, o :: rest => ((o :: rest).take (n + 1)) :: cutInto n fuel ((o :: rest).drop (n + 1))

/-- A list cut into runs of n octets, n at least 1. -/
def records (n : Nat) (o : List Octet) : List (List Octet) := cutInto (n - 1) o.length o

/-! ### Table spaces (section 9.4 and R172) -/

/-- The octets of a record of each space. -/
def recordSize (space : Fin 8) : Nat := [5, 5, 3, 3, 4, 4, 2, 5].getD space.val 1

/-- The records of each space. -/
def recordCount (space : Fin 8) : Nat := [192, 64, 32, 16, 16, 128, 8, 1].getD space.val 0

def polarityBit : Polarity → Nat
  | .normal => 0
  | .inverted => 1

def boolNat (b : Bool) : Nat := if b then 1 else 0

def bit? (n : Nat) : Option Bool := if n = 0 then some false else if n = 1 then some true else none

def polarity? (n : Nat) : Option Polarity := if n = 0 then some .normal else if n = 1 then some .inverted else none

/-- Group 0..31, FFh none; none of these is refused (R44, R172). -/
def group? (n : Nat) : Option (Option (Fin 32)) :=
  if n = 255 then some none else (index? 32 n).map some

def groupOctet : Option (Fin 32) → Octet
  | none => 0xFF#8
  | some g => octet g.val

/-- SOURCE: trim, group, polarity and mute, class (R172). -/
def Chan.record (c : Chan) : List Octet :=
  code16 c.trim.target ++ [groupOctet c.group, octet (polarityBit c.polarity * 16 + boolNat c.opMute), octet c.cls.val]

/-- BUS: tier, level, mute, class (R172). -/
def Bus.record (b : Bus) : List Octet :=
  octet b.tier.val :: code16 b.level.target ++ [octet (boolNat b.muted), octet b.cls.val]

def Group.record (g : Group) : List Octet := code16 g.trim.target ++ [octet g.cls.val]

def AcceptRec.record (a : AcceptRec) : List Octet := [octet (boolNat a.accept), octet a.min, octet a.max]

def Window.record (w : Window) : List Octet :=
  [octet (boolNat w.enabled), octet w.first, octet w.last, octet w.chan]

/-- The egress kind octet (R172). -/
def SlotUse.kind : SlotUse → Nat
  | .off => 0
  | .bus _ => 1
  | .direct _ => 2
  | .punch _ _ _ _ => 3

def SlotUse.index : SlotUse → Nat
  | .off => 0
  | .bus b => b.val
  | .direct c => c.val
  | .punch b _ _ _ => b.val

def SlotUse.replay : SlotUse → Nat
  | .off => 0
  | .bus _ => 0
  | .direct _ => 0
  | .punch _ p _ _ => p.val

/-- The punch state in bits 7..4 of the class octet (R116, R172). -/
def SlotUse.stateCode : SlotUse → Nat
  | .off => 0
  | .bus _ => 0
  | .direct _ => 0
  | .punch _ _ .replay _ => 1
  | .punch _ _ .toLive _ => 2
  | .punch _ _ .live _ => 3
  | .punch _ _ .toReplay _ => 4

def Slot.record (t : Slot) : List Octet :=
  [octet t.use.kind, octet t.use.index, octet t.use.replay, octet (t.use.stateCode * 16 + t.cls.val)]

def steerCode : Steering → Nat
  | .none => 0
  | .x => 1
  | .y => 2
  | .both => 3

def steer? (n : Nat) : Option Steering :=
  if n = 0 then some .none else if n = 1 then some .x else if n = 2 then some .y else if n = 3 then some .both else none

def modeCode : ClearMode → Nat
  | .onReport => 0
  | .onWrite => 1

def mode? (n : Nat) : Option ClearMode := if n = 0 then some .onReport else if n = 1 then some .onWrite else none

def NoticeRec.record (n : NoticeRec) : List Octet := [octet (steerCode n.steer), octet (modeCode n.mode)]

def Control.record (c : Control) : List Octet :=
  [octet c.coalCount, octet c.coalTimer] ++ count16 c.lowMark ++ [octet c.holdThreshold]

end Sys2Proof.Machine
end

