-- ==== Sys2Proof/Machine/Tables.lean ====
section
/-! DEFINITION. The table spaces: what a record read returns and what a record or field write checks and does (R32, R40 to
R45, R48, R49, R66, R67, R84, R115, R116, R126, R164 to R167, R175). -/

namespace Sys2Proof.Machine

/-- The outcome of one record or field: the state written, or the status that refuses it. -/
abbrev Written := Except Status State

/-- A check that refuses with RANGE what has no value. -/
def ranged {α : Type} (x : Option α) (f : α → Written) : Written :=
  match x with
  | none => .error .range
  | some a => f a

/-! ### SOURCE (R44, R45, R47, R51) -/

/-- The fields of a SOURCE record: code, group, polarity, mute, class. -/
structure SourceFields where
  code : Int
  group : Option (Fin 32)
  polarity : Polarity
  mute : Bool
  cls : Fin 8
  deriving DecidableEq, Repr

def sourceFields? (o : List Octet) : Option SourceFields := do
  let g ← group? (o.getD 2 0).toNat
  let p ← polarity? ((o.getD 3 0).toNat / 16)
  let m ← bit? ((o.getD 3 0).toNat % 16)
  let n ← index? 8 (o.getD 4 0).toNat
  some ⟨clampCode (signed16 (o.getD 0 0) (o.getD 1 0)), g, p, m, n⟩

/-- R44: a whole SOURCE record; its class is the class of the trim it writes. -/
def State.putSource (s : State) (i : Fin 192) (f : SourceFields) : State :=
  s.setChan i
    ({ s.chans[i] with
        trim := s.chans[i].trim.aim f.code (rampLen f.cls)
        group := f.group
        polarity := f.polarity
        cls := f.cls }.setOpMute f.mute (s.muted i))

def State.writeSource (s : State) (idx : Nat) (o : List Octet) : Written :=
  ranged (index? 192 idx) fun i => ranged (sourceFields? o) fun f => .ok (s.putSource i f)

/-- A field value that its octet can hold (R166). -/
def octetValue? (v : Int) : Option Nat := if 0 ≤ v ∧ v ≤ 255 then some v.toNat else none

/-- R44, R166: one SOURCE field. -/
def State.writeSourceField (s : State) (idx field : Nat) (v : Int) : Written :=
  ranged (index? 192 idx) fun i =>
    match field with
    | 0 => .ok (s.setChan i { s.chans[i] with trim := s.chans[i].trim.aim (clampCode v) (rampLen s.chans[i].cls) })
    | 1 => ranged ((octetValue? v).bind group?) fun g => .ok (s.setChan i { s.chans[i] with group := g })
    | 2 => ranged ((octetValue? v).bind polarity?) fun p => .ok (s.setChan i { s.chans[i] with polarity := p })
    | 3 => ranged ((octetValue? v).bind bit?) fun m => .ok (s.setChan i (s.chans[i].setOpMute m (s.muted i)))
    | 4 => ranged ((octetValue? v).bind (index? 8)) fun n => .ok (s.setChan i { s.chans[i] with cls := n })
    | _ => .error .range

/-! ### BUS (R66, R67, R68, R81, R84) -/

/-- The fields of a BUS record. -/
structure BusFields where
  tier : Fin 4
  code : Int
  mute : Bool
  cls : Fin 8
  deriving DecidableEq, Repr

def busFields? (o : List Octet) : Option BusFields := do
  let t ← index? 4 (o.getD 0 0).toNat
  let m ← bit? (o.getD 3 0).toNat
  let n ← index? 8 (o.getD 4 0).toNat
  some ⟨t, clampCode (signed16 (o.getD 1 0) (o.getD 2 0)), m, n⟩

/-- Matrix row 192 + b (R80). -/
def busRow (b : Fin 64) : Fin 256 := ⟨192 + b.val, by omega⟩

/-- R84: with bus b at tier t, every non-off crosspoint of its row and of its column would be legal, non-off being a matter of
its codes alone (DESIGN CHOICE, log entry 25). A tier unchanged passes. The diagonal crosspoint does not enter the test. -/
def State.tierFits (s : State) (b : Fin 64) (t : Fin 4) : Bool :=
  decide (t = s.buses[b].tier) ||
    (List.finRange 64).all fun c =>
      c == b ||
        ((!(s.matrix.cell (busRow b) c).nonOff || decide (t < s.buses[c].tier)) &&
          (!(s.matrix.cell (busRow c) b).nonOff || decide (s.buses[c].tier < t)))

/-- R66, R67, R68: a whole BUS record; its class is the class of the level it writes. -/
def State.putBus (s : State) (i : Fin 64) (f : BusFields) : State :=
  s.setBus i
    ({ s.buses[i] with
        tier := f.tier
        level := s.buses[i].level.aim f.code (rampLen f.cls)
        cls := f.cls }.setMute f.mute)

/-- A BUS record (R66, R84, R165). One that fails a range check and the tier check both is answered RANGE (DESIGN CHOICE, log
entry 24). -/
def State.writeBus (s : State) (idx : Nat) (o : List Octet) : Written :=
  ranged (index? 64 idx) fun i => ranged (busFields? o) fun f =>
    if s.tierFits i f.tier then .ok (s.putBus i f) else .error .tier

/-- R66, R84, R166: one BUS field. -/
def State.writeBusField (s : State) (idx field : Nat) (v : Int) : Written :=
  ranged (index? 64 idx) fun i =>
    match field with
    | 0 => ranged ((octetValue? v).bind (index? 4)) fun t =>
        if s.tierFits i t then .ok (s.setBus i { s.buses[i] with tier := t }) else .error .tier
    | 1 => .ok (s.setBus i { s.buses[i] with level := s.buses[i].level.aim (clampCode v) (rampLen s.buses[i].cls) })
    | 2 => ranged ((octetValue? v).bind bit?) fun m => .ok (s.setBus i (s.buses[i].setMute m))
    | 3 => ranged ((octetValue? v).bind (index? 8)) fun n => .ok (s.setBus i { s.buses[i] with cls := n })
    | _ => .error .range

/-! ### GROUP (R48, R49) -/

def State.writeGroup (s : State) (idx : Nat) (o : List Octet) : Written :=
  ranged (index? 32 idx) fun i => ranged (index? 8 (o.getD 2 0).toNat) fun n =>
    .ok (s.setGroup i ⟨s.groups[i].trim.aim (clampCode (signed16 (o.getD 0 0) (o.getD 1 0))) (rampLen n), n⟩)

def State.writeGroupField (s : State) (idx field : Nat) (v : Int) : Written :=
  ranged (index? 32 idx) fun i =>
    match field with
    | 0 => .ok (s.setGroup i
        { s.groups[i] with trim := s.groups[i].trim.aim (clampCode v) (rampLen s.groups[i].cls) })
    | 1 => ranged ((octetValue? v).bind (index? 8)) fun n => .ok (s.setGroup i { s.groups[i] with cls := n })
    | _ => .error .range

/-! ### ACCEPT (R32) -/

def acceptFields? (o : List Octet) : Option AcceptRec := do
  let a ← bit? (o.getD 0 0).toNat
  let lo := (o.getD 1 0).toNat
  let hi := (o.getD 2 0).toNat
  if 1 ≤ lo ∧ lo ≤ hi ∧ hi ≤ 64 then some ⟨a, lo, hi⟩ else none

def State.writeAccept (s : State) (idx : Nat) (o : List Octet) : Written :=
  ranged (index? 16 idx) fun i => ranged (acceptFields? o) fun a => .ok { s with accept := s.accept.set i a }

/-! ### INGRESS (R40, R41) -/

def windowFields? (o : List Octet) : Option Window := do
  let e ← bit? (o.getD 0 0).toNat
  let first := (o.getD 1 0).toNat
  let last := (o.getD 2 0).toNat
  let chan := (o.getD 3 0).toNat
  if first ≤ last ∧ last ≤ 63 ∧ chan ≤ 191 ∧ chan + (last - first) ≤ 191 then some ⟨e, first, last, chan⟩ else none

/-- Two enabled windows share a channel (R41). -/
def Window.overlaps (w v : Window) : Bool :=
  w.enabled && v.enabled &&
    decide (w.chan ≤ v.chan + (v.last - v.first) ∧ v.chan ≤ w.chan + (w.last - w.first))

def State.windowFree (s : State) (i : Fin 16) (w : Window) : Bool :=
  (List.finRange 16).all fun j => j == i || !w.overlaps s.ingress[j]

def State.writeIngress (s : State) (idx : Nat) (o : List Octet) : Written :=
  ranged (index? 16 idx) fun i => ranged (windowFields? o) fun w =>
    if s.windowFree i w then .ok { s with ingress := s.ingress.set i w } else .error .overlap

/-! ### EGRESS (R115, R126) -/

/-- The use that a kind, an index and a replay channel spell, a PUNCH slot in REPLAY (R114, R115, R126); none where R115
refuses with RANGE. -/
def slotUse? (kind idx rep : Nat) : Option SlotUse :=
  match kind with
  | 0 => some .off
  | 1 => (index? 64 idx).map .bus
  | 2 => (index? 192 idx).map .direct
  | 3 => do
    let b ← index? 64 idx
    let p ← index? 192 rep
    some (.punch b p .replay 0)
  | _ => none

/-- R126: a slot in LIVE that stays PUNCH stays LIVE, at the length of the class after the write. -/
def Slot.rewritten (t : Slot) (u : SlotUse) (cls : Fin 8) : Slot :=
  match t.use, u with
  | .punch _ _ .live k, .punch b p _ _ => ⟨.punch b p .live (if cls = t.cls then k else rampLen cls), cls⟩
  | _, _ => ⟨u, cls⟩

/-- R115: the slot is moving, and no write may reach it. -/
def Slot.moving (t : Slot) : Bool :=
  match t.use with
  | .punch _ _ .toLive _ => true
  | .punch _ _ .toReplay _ => true
  | .punch _ _ .live _ => false
  | .punch _ _ .replay _ => false
  | .off => false
  | .bus _ => false
  | .direct _ => false

/-- R115: the record of a slot given its four numbers. -/
def State.putSlot (s : State) (i : Fin 128) (kind idx rep cls : Nat) : Written :=
  ranged (slotUse? kind idx rep) fun u => ranged (index? 8 cls) fun n =>
    .ok { s with egress := s.egress.set i (s.egress[i].rewritten u n) }

/-- The class half of a class octet; the other half is ignored on a write (R116, R172). -/
def classHalf (n : Nat) : Nat := n % 16

def State.writeEgress (s : State) (idx : Nat) (o : List Octet) : Written :=
  ranged (index? 128 idx) fun i =>
    if s.egress[i].moving then .error .busy
    else s.putSlot i (o.getD 0 0).toNat (o.getD 1 0).toNat (o.getD 2 0).toNat (classHalf (o.getD 3 0).toNat)

/-- R115, R166: one EGRESS field, judged with the record as it would stand. -/
def State.writeEgressField (s : State) (idx field : Nat) (v : Int) : Written :=
  ranged (index? 128 idx) fun i =>
    if s.egress[i].moving then .error .busy
    else ranged (octetValue? v) fun n =>
      let t := s.egress[i]
      match field with
      | 0 => s.putSlot i n t.use.index t.use.replay t.cls.val
      | 1 => s.putSlot i t.use.kind n t.use.replay t.cls.val
      | 2 => s.putSlot i t.use.kind t.use.index n t.cls.val
      | 3 => s.putSlot i t.use.kind t.use.index t.use.replay (classHalf n)
      | _ => .error .range

/-! ### NOTICE and CONTROL (R167, R175) -/

def noticeFields? (o : List Octet) : Option NoticeRec := do
  let a ← steer? (o.getD 0 0).toNat
  let m ← mode? (o.getD 1 0).toNat
  some ⟨a, m⟩

def State.writeNotice (s : State) (idx : Nat) (o : List Octet) : Written :=
  ranged (index? 8 idx) fun i => ranged (noticeFields? o) fun n =>
    .ok { s with report := { s.report with notices := s.report.notices.set i n } }

def controlFields? (o : List Octet) : Option Control :=
  let c := (o.getD 0 0).toNat
  let t := (o.getD 1 0).toNat
  let l := (word16 (o.getD 2 0) (o.getD 3 0)).toNat
  let h := (o.getD 4 0).toNat
  if 1 ≤ c ∧ c ≤ 15 ∧ t ≤ 63 ∧ l ≤ 511 ∧ h ≤ 15 then some ⟨c, t, l, h⟩ else none

def State.writeControl (s : State) (idx : Nat) (o : List Octet) : Written :=
  ranged (index? 1 idx) fun _ => ranged (controlFields? o) fun c =>
    .ok { s with report := { s.report with control := c } }

/-! ### Any space -/

/-- R164: a record as stored. -/
def State.readRecord (s : State) (space : Fin 8) (idx : Nat) : List Octet :=
  match space.val with
  | 0 => ((index? 192 idx).map fun i => s.chans[i].record).getD []
  | 1 => ((index? 64 idx).map fun i => s.buses[i].record).getD []
  | 2 => ((index? 32 idx).map fun i => s.groups[i].record).getD []
  | 3 => ((index? 16 idx).map fun i => s.accept[i].record).getD []
  | 4 => ((index? 16 idx).map fun i => s.ingress[i].record).getD []
  | 5 => ((index? 128 idx).map fun i => s.egress[i].record).getD []
  | 6 => ((index? 8 idx).map fun i => s.report.notices[i].record).getD []
  | _ => s.report.control.record

/-- R165: one record of a space, checked and written by its owner. -/
def State.writeRecord (s : State) (space : Fin 8) (idx : Nat) (o : List Octet) : Written :=
  match space.val with
  | 0 => s.writeSource idx o
  | 1 => s.writeBus idx o
  | 2 => s.writeGroup idx o
  | 3 => s.writeAccept idx o
  | 4 => s.writeIngress idx o
  | 5 => s.writeEgress idx o
  | 6 => s.writeNotice idx o
  | _ => s.writeControl idx o

/-- What a WRITE_TABLE has done: the state, the records written, and the refusal that stopped it if one did. -/
structure TableWrite where
  state : State
  count : Nat
  refusal : Option Status
  deriving DecidableEq, Repr

/-- R165: records written in order to successive indexes, up to the first refused. -/
def State.writeRecords (space : Fin 8) : Nat → List (List Octet) → State → TableWrite
  | _, [], s => ⟨s, 0, none⟩
  | idx, o :: rest, s =>
    match s.writeRecord space idx o with
    | .error e => ⟨s, 0, some e⟩
    | .ok s1 =>
      let w := State.writeRecords space (idx + 1) rest s1
      { w with count := w.count + 1 }

/-- R33, R42, R165: what the owner attaches to the whole command, for the `n` records written from `idx` on; `s` is the
state before the command. -/
def State.afterWrite (s w : State) (space : Fin 8) (idx n : Nat) : State :=
  match space.val with
  | 3 =>
    let written := (List.range n).map (· + idx)
    (((w.reclassify written .a).reclassify written .b).reclassify written .c).reclassify written .d
  | 4 => w.reviewMutes s.ingress s.links
  | _ => w

/-- R166: one field of SOURCE, BUS, GROUP or EGRESS; the other spaces take whole records only. -/
def State.writeOneField (s : State) (space idx field : Nat) (v : Int) : Written :=
  match space with
  | 0 => s.writeSourceField idx field v
  | 1 => s.writeBusField idx field v
  | 2 => s.writeGroupField idx field v
  | 5 => s.writeEgressField idx field v
  | n => if n ≤ 7 then .error .badKind else .error .range

end Sys2Proof.Machine
end

