-- ==== Sys2Proof/Machine/Commands.lean ====
section
/-! DEFINITION. The sixteen commands as the command processor executes them (R86 to R95, R127, R138 to R140, R149, R158,
R162 to R169, R180 to R185). Each takes the payload and the state with the message already out of the command queue, and
answers the state and the response's payload. -/

namespace Sys2Proof.Machine

/-- The outcome of a command's execution: the engine and the payload of the response (R158, R162). -/
structure Reply where
  state : State
  payload : List Octet
  deriving DecidableEq, Repr

/-- A status alone. -/
def Reply.only (s : State) (t : Status) : Reply := ⟨s, [t.octet]⟩

/-- A status and a count octet (R162). -/
def Reply.counted (s : State) (t : Status) (n : Nat) : Reply := ⟨s, [t.octet, octet n]⟩

/-- A status and data (R162). -/
def Reply.withData (s : State) (t : Status) (data : List Octet) : Reply := ⟨s, t.octet :: data⟩

/-! ### STATUS (R163) -/

def LinkState.code : LinkState → Nat
  | .absent => 0
  | .sensing => 1
  | .accepted => 2
  | .rejected => 3

/-- A link's four octets; an announcement of none is zeros (R22, R171). -/
def Receiver.statusOctets (r : Receiver) : List Octet :=
  match r.ann with
  | none => [octet r.state.code, 0#8, 0#8, 0#8]
  | some a => [octet r.state.code, octet a.cls.val, octet a.slots, a.ident]

def ClockState.code : ClockState → Nat
  | .free => 0
  | .locked => 1

/-- The 31 octets of a STATUS snapshot (R163, R171). -/
def State.snapshot (s : State) : List Octet :=
  [octet s.clock.state.code, octet (boolNat s.tracker.rolling)] ++ octets32 s.tracker.pos ++
    (s.link .a).statusOctets ++ (s.link .b).statusOctets ++ (s.link .c).statusOctets ++ (s.link .d).statusOctets ++
    count16 s.queue.length ++ count16 s.matrix.pool.length ++ count16 s.matrix.waiting.length ++
    count16 s.sweep.left ++ [octet s.room]

def doStatus (s : State) : Reply := .withData s .ok s.snapshot

/-! ### Table commands (R164, R165, R166) -/

/-- The octets of record a response can carry (R164). -/
def maxRecordOctets : Nat := 56

/-- R164: the records returned. -/
def recordsRead (space : Fin 8) (first count : Nat) : Nat :=
  min count (min (recordCount space - first) (maxRecordOctets / recordSize space))

def doReadTable (p : List Octet) (s : State) : Reply :=
  match index? 8 (p.getD 0 0).toNat with
  | none => .counted s .range 0
  | some space =>
    let first := (p.getD 1 0).toNat
    let count := (p.getD 2 0).toNat
    if count = 0 ∨ recordCount space ≤ first then .counted s .range 0
    else
      let n := recordsRead space first count
      .withData s (if n = count then .ok else .partialDone)
        (octet n :: (List.range n).flatMap fun j => s.readRecord space (first + j))

/-- R165: admission in three steps, the records, the whole-command effects, the response. -/
def doWriteTable (p : List Octet) (s : State) : Reply :=
  if p.length < 2 then .only s .badLen
  else
    match index? 8 (p.getD 0 0).toNat with
    | none => .counted s .range 0
    | some space =>
      let recs := p.drop 2
      if recs = [] ∨ recs.length % recordSize space ≠ 0 then .only s .badLen
      else
        let first := (p.getD 1 0).toNat
        let w := State.writeRecords space first (records (recordSize space) recs) s
        .counted (s.afterWrite w.state space first w.count) (w.refusal.getD .ok) w.count

def doWriteField (p : List Octet) (s : State) : Reply :=
  match s.writeOneField (p.getD 0 0).toNat (p.getD 1 0).toNat (p.getD 2 0).toNat (signed16 (p.getD 3 0) (p.getD 4 0)) with
  | .error e => .only s e
  | .ok s1 => .only s1 .ok

/-! ### The matrix window (R86 to R93) -/

def order? (n : Nat) : Option Order := if n = 0 then some .rows else if n = 1 then some .columns else none

def dir? (n : Nat) : Option Dir := if n = 0 then some .up else if n = 1 then some .down else none

def MatrixWindow.startRow (w : MatrixWindow) : Fin 256 := if w.rowDir = .up then w.firstRow else w.lastRow

def MatrixWindow.endRow (w : MatrixWindow) : Fin 256 := if w.rowDir = .up then w.lastRow else w.firstRow

def MatrixWindow.startCol (w : MatrixWindow) : Fin 64 := if w.colDir = .up then w.firstCol else w.lastCol

def MatrixWindow.endCol (w : MatrixWindow) : Fin 64 := if w.colDir = .up then w.lastCol else w.firstCol

/-- One step of a row or column in its direction (R88); taken only away from the window's end. -/
def stepIn (n : Nat) (d : Dir) (x : Fin (n + 1)) : Fin (n + 1) := if d = .up then x + 1 else x - 1

/-- R88: the counter advances by one cell. -/
def MatrixWindow.next (w : MatrixWindow) : MatrixWindow :=
  match w.order with
  | .rows =>
    if w.col ≠ w.endCol then { w with col := stepIn 63 w.colDir w.col }
    else if w.row ≠ w.endRow then { w with col := w.startCol, row := stepIn 255 w.rowDir w.row }
    else { w with col := w.startCol, row := w.startRow }
  | .columns =>
    if w.row ≠ w.endRow then { w with row := stepIn 255 w.rowDir w.row }
    else if w.col ≠ w.endCol then { w with row := w.startRow, col := stepIn 63 w.colDir w.col }
    else { w with row := w.startRow, col := w.startCol }

/-- The seven fields of a SET_WINDOW with the counter at the start corner (R86, R87). -/
def windowOf? (p : List Octet) : Option MatrixWindow := do
  let r0 ← index? 256 (p.getD 0 0).toNat
  let r1 ← index? 256 (p.getD 1 0).toNat
  let c0 ← index? 64 (p.getD 2 0).toNat
  let c1 ← index? 64 (p.getD 3 0).toNat
  let o ← order? (p.getD 4 0).toNat
  let rd ← dir? (p.getD 5 0).toNat
  let cd ← dir? (p.getD 6 0).toNat
  if r0 ≤ r1 ∧ c0 ≤ c1 then
    some ⟨r0, r1, c0, c1, o, rd, cd, if rd = .up then r0 else r1, if cd = .up then c0 else c1⟩
  else none

def doSetWindow (p : List Octet) (s : State) : Reply :=
  match windowOf? p with
  | none => .only s .range
  | some w => .only { s with window := w } .ok

/-- KEEP (R56, R91). -/
def keepCode : Int := -32768

def State.stepWindow (s : State) : State := { s with window := s.window.next }

/-- R91: a cell that the tier law skips. -/
def State.skipsCell (s : State) (code : Int) : Bool :=
  code != keepCode && !s.legal s.window.row s.window.col && clampCode code != offCode

/-- R91: one code taken against the crosspoint at the counter, which then advances. -/
def State.gainCell (s : State) (n : Fin 8) (code : Int) : State :=
  (if code = keepCode ∨ s.skipsCell code = true then s
   else s.writeXp s.window.row s.window.col (clampCode code) n).stepWindow

/-- The codes of a WRITE_GAINS payload after its class octet (R171). -/
def codesOf : List Octet → List Int
  | hi :: lo :: rest => signed16 hi lo :: codesOf rest
  | [_] => []
  | [] => []

/-- R91, R92: the cells in order, and the count of those skipped. -/
def State.gainCells (n : Fin 8) : List Int → State → State × Nat
  | [], s => (s, 0)
  | code :: rest, s =>
    let r := State.gainCells n rest (s.gainCell n code)
    (r.1, r.2 + boolNat (s.skipsCell code))

/-- R90, R92. -/
def doWriteGains (p : List Octet) (s : State) : Reply :=
  if s.sweep.busy then .counted s .busy 0
  else
    match index? 8 (p.getD 0 0).toNat with
    | none => .counted s .range 0
    | some n =>
      let r := State.gainCells n (codesOf (p.drop 1)) s
      .counted r.1 (if r.2 = 0 then .ok else .tier) r.2

/-- R93: the pair of the crosspoint at the counter. -/
def State.gainPair (s : State) : List Octet :=
  code16 (s.matrix.cell s.window.row s.window.col).cur ++ code16 (s.matrix.cell s.window.row s.window.col).tgt

/-- R93: n cells taken at successive counter positions. -/
def State.readCells : Nat → State → State × List Octet
  | 0, s => (s, [])
  | n + 1, s =>
    let r := State.readCells n s.stepWindow
    (r.1, s.gainPair ++ r.2)

def doReadGains (p : List Octet) (s : State) : Reply :=
  let n := (p.getD 0 0).toNat
  if 1 ≤ n ∧ n ≤ 14 then .withData (State.readCells n s).1 .ok (State.readCells n s).2 else .only s .range

/-- R95. -/
def doMatrixClear (p : List Octet) (s : State) : Reply :=
  if s.sweep.busy then .only s .busy
  else
    match index? 8 (p.getD 0 0).toNat with
    | none => .only s .range
    | some n => .only { s with sweep := .inFlight n 16384 } .ok

/-! ### Automation and punch commands (R127, R138 to R140, R149) -/

/-- R139: the transport has passed the due position. -/
def Tracker.isLate (t : Tracker) (due : Position) : Bool :=
  if t.rolling then decide (due ≤ t.pos) else decide (due < t.pos)

/-- R139: a late event is applied at once and counted. -/
def State.applyLate (s : State) (e : AutoEvent) : State :=
  let s1 := s.applyMove e.move
  { s1 with report := (s1.report.addCount lateCount).setItem .late }

/-- What a QUEUE_EVENTS has done: the state, the events taken, and what stopped it. -/
structure EventsTaken where
  state : State
  taken : Nat
  stop : Option Status
  deriving DecidableEq, Repr

/-- R138, R139, R140: the events one at a time; `taken` have been taken before. -/
def State.takeEvents : List (List Octet) → Nat → State → EventsTaken
  | [], n, s => ⟨s, n, none⟩
  | o :: rest, n, s =>
    match readEvent o with
    | none => ⟨s, n, some .range⟩
    | some e =>
      if s.tracker.isLate e.due then State.takeEvents rest (n + 1) (s.applyLate e)
      else if s.queue.length < queueSize then
        State.takeEvents rest (n + 1) { s with queue := insertEvent e s.queue }
      else ⟨s, n, some (if n = 0 then .qfull else .partialDone)⟩

def doQueueEvents (p : List Octet) (s : State) : Reply :=
  let r := State.takeEvents (records 10 p) 0 s
  .counted r.state (r.stop.getD .ok) r.taken

/-- R149. -/
def doFlushQueue (s : State) : Reply := .only (s.flush.judgeLow s.queue.length) .ok

/-- R127: the slots of the run that are of kind PUNCH receive the request, in ascending order. -/
def State.punchRun (s : State) (first count : Nat) (into : Bool) : State :=
  (List.range count).foldl
    (fun s j => if h : first + j < 128 then
        (if s.egress[first + j].isPunch then s.punchRequest ⟨first + j, h⟩ into else s)
      else s) s

/-- R127: the PUNCH slots of a run. -/
def State.punchCount (s : State) (first count : Nat) : Nat :=
  ((List.range count).filter fun j =>
    if h : first + j < 128 then s.egress[first + j].isPunch else false).length

def doPunch (p : List Octet) (s : State) : Reply :=
  let first := (p.getD 0 0).toNat
  let count := (p.getD 1 0).toNat
  if 127 < first ∨ count = 0 ∨ 128 < first + count then .counted s .range 0
  else
    match bit? (p.getD 2 0).toNat with
    | none => .counted s .range 0
    | some into =>
      let n := s.punchCount first count
      .counted (s.punchRun first count into) (if n = count then .ok else .partialDone) n

/-! ### Flag and counter commands (R168, R180 to R184) -/

/-- The eight class bitmaps, 40 octets (R168, R171). -/
def Report.allBitmaps (r : Report) : List Octet :=
  (List.finRange 8).flatMap fun c => bitmapOctets (bitmapSize c) r.items[c]

def doReadFlags (s : State) : Reply :=
  .withData { s with report := s.report.afterReadFlags } .ok s.report.allBitmaps

def doClearFlags (p : List Octet) (s : State) : Reply :=
  match index? 8 (p.getD 0 0).toNat with
  | none => .only s .range
  | some c => .only { s with report := s.report.clearItems c (octetsBitmap (p.drop 1)) } .ok

/-- R182: the named items as they stood before the command, then cleared in either clear mode.
DESIGN CHOICE (log entry 28), unsafe: R186's last sentence has the bitmap show QUEUE/LOW set when the clear is taken
before the fall that sets it. The model follows R182: the bit is the item's state before the command, so it is clear
there if nothing set the item earlier. -/
def doTestAndClear (p : List Octet) (s : State) : Reply :=
  match index? 8 (p.getD 0 0).toNat with
  | none => .only s .range
  | some c =>
    .withData { s with report := s.report.clearItems c (octetsBitmap (p.drop 1)) } .ok
      (octet c.val :: bitmapOctets 16 (s.report.items[c] &&& octetsBitmap (p.drop 1)))

/-- R184: counters first..first + count − 1 set to 0. -/
def Report.zeroCounters (r : Report) (first count : Nat) : Report :=
  { r with
    counters := Vector.ofFn fun i => if first ≤ i.val ∧ i.val < first + count then 0 else r.counters[i] }

def doReadCounters (p : List Octet) (s : State) : Reply :=
  let first := (p.getD 0 0).toNat
  let count := (p.getD 1 0).toNat
  if 1 ≤ count ∧ count ≤ 28 ∧ first + count ≤ 84 then
    match bit? (p.getD 2 0).toNat with
    | none => .only s .range
    | some clear =>
      .withData (if clear then { s with report := s.report.zeroCounters first count } else s) .ok
        ((List.range count).flatMap fun j => count16 (s.report.counters.toList.getD (first + j) 0))
  else .only s .range

/-! ### ENGINE_RESET (R54, R79, R100, R111, R130, R137, R169, R185) -/

/-- R79, R100: every crosspoint at its target, or off when a sweep is completed by the reset. -/
def Matrix.settle (m : Matrix) (sweeping : Bool) : Matrix :=
  { cells := mapAll (mapAll fun x => if sweeping then Xp.off else ⟨x.tgt, x.tgt, false⟩) m.cells
    pool := []
    waiting := [] }

/-- R54, R50: trim at its target, mute component at −960 when link-muted or operator-muted, else at 0. -/
def Chan.settle (c : Chan) (linkMuted : Bool) : Chan :=
  { c with trim := c.trim.settle, mute := standing (if linkMuted || c.opMute then offCode else 0) }

/-- R79, R111. -/
def Bus.settle (b : Bus) : Bus :=
  { b with level := b.level.settle, muteRamp := standing (if b.muted then offCode else 0), clipping := false }

/-- R130. -/
def Slot.settle (t : Slot) : Slot :=
  match t.use with
  | .punch b p .toLive _ => { t with use := .punch b p .live t.len }
  | .punch b p .toReplay _ => { t with use := .punch b p .replay 0 }
  | .punch b p .live k => { t with use := .punch b p .live k }
  | .punch b p .replay k => { t with use := .punch b p .replay k }
  | .off => t
  | .bus _ => t
  | .direct _ => t

/-- The engine reset, block by block; the links, clock, tables, tracker, framer, both queues of the command channel and the
held results stay (R169 and each chapter). -/
def State.engineReset (s : State) : State :=
  { s with
    chans := Vector.ofFn fun i => s.chans[i].settle (s.muted i)
    groups := mapAll (fun g => { g with trim := g.trim.settle }) s.groups
    buses := mapAll Bus.settle s.buses
    matrix := s.matrix.settle s.sweep.busy
    window := MatrixWindow.reset
    sweep := .idle
    egress := mapAll Slot.settle s.egress
    queue := []
    report := s.report.engineReset }

def doEngineReset (s : State) : Reply := .only s.engineReset .ok

/-! ### Admission and the queues (R156, R158, R159) -/

/-- R158, R171: the payload length is one the kind allows. WRITE_TABLE judges its own (R165). -/
def lengthAllowed (kind : Nat) (n : Nat) : Bool :=
  match kind with
  | 0x01 => n == 0
  | 0x02 => n == 3
  | 0x03 => true
  | 0x04 => n == 5
  | 0x05 => n == 7
  | 0x06 => n % 2 == 1 && decide (3 ≤ n ∧ n ≤ 53)
  | 0x07 => n == 1
  | 0x08 => n == 1
  | 0x09 => n % 10 == 0 && decide (10 ≤ n ∧ n ≤ 50)
  | 0x0A => n == 0
  | 0x0B => n == 3
  | 0x0C => n == 0
  | 0x0D => n == 17
  | 0x0E => n == 17
  | 0x0F => n == 3
  | 0x10 => n == 0
  | _ => false

/-- R158, R163 to R169: the command of a kind. -/
def doCommand (kind : Nat) (p : List Octet) (s : State) : Reply :=
  match kind with
  | 0x01 => doStatus s
  | 0x02 => doReadTable p s
  | 0x03 => doWriteTable p s
  | 0x04 => doWriteField p s
  | 0x05 => doSetWindow p s
  | 0x06 => doWriteGains p s
  | 0x07 => doReadGains p s
  | 0x08 => doMatrixClear p s
  | 0x09 => doQueueEvents p s
  | 0x0A => doFlushQueue s
  | 0x0B => doPunch p s
  | 0x0C => doReadFlags s
  | 0x0D => doClearFlags p s
  | 0x0E => doTestAndClear p s
  | 0x0F => doReadCounters p s
  | 0x10 => doEngineReset s
  | _ => .only s .badKind

/-- R158: a message taken is admitted in order: kind, payload length, command. -/
def runMessage (m : Message) (s : State) : Reply :=
  if m.kind.toNat = 0 ∨ 16 < m.kind.toNat then .only s .badKind
  else if !lengthAllowed m.kind.toNat m.payload.length then .only s .badLen
  else doCommand m.kind.toNat m.payload s

/-- R158: the response's kind. -/
def responseKind (kind : Octet) : Octet := if kind.toNat < 128 then kind + 0x80#8 else 0xFF#8

/-- R158: the processor executes message m, which has left the command queue, and places its response. -/
def State.execute (s : State) (m : Message) : State :=
  let r := runMessage m s
  { r.state with responses := r.state.responses ++ [⟨responseKind m.kind, m.tag, r.payload⟩] }

/-- R158: the processor takes the oldest message when there is one and the response queue has room. -/
def State.takeMessage (s : State) : State :=
  match s.commands with
  | [] => s
  | m :: rest => if s.responses.length < channelSize then { s with commands := rest }.execute m else s

/-- R158: up to n messages taken one after another. -/
def State.takeMessages : Nat → State → State
  | 0, s => s
  | n + 1, s => State.takeMessages n s.takeMessage

/-- A message handed on by the framer and the processor's work after it: it joins the queue (R156), and the processor takes
the messages the queue then holds, oldest first, as long as the response queue has room (R158). At a full queue it is
dropped, the completion being first of the two events of R187 (DESIGN CHOICE, log entry 27). -/
def State.submit (s : State) (m : Message) : State :=
  let s1 := s.joinMessage m
  State.takeMessages s1.commands.length s1

end Sys2Proof.Machine
end

