-- ==== Sys2Proof/Machine/ControlCommands.lean ====
section
/-! DEFINITION. The commands of the console controller: each is a valid message of its kind, handed to the command queue and
taken by the command processor (R156, R158; log entry 4). What each does is its `do...` definition in Commands.lean. -/

namespace Sys2Proof.Machine

/-- STATUS (R163), kind 01h. -/
def execStatus (tag : Octet) (payload : List Octet) (s : State) : Host.Outcome State Fault Refusal :=
  .next (s.submit ⟨0x01#8, tag, payload⟩)

/-- READ_TABLE (R164), kind 02h. -/
def execReadTable (tag : Octet) (payload : List Octet) (s : State) : Host.Outcome State Fault Refusal :=
  .next (s.submit ⟨0x02#8, tag, payload⟩)

/-- WRITE_TABLE (R165), kind 03h. -/
def execWriteTable (tag : Octet) (payload : List Octet) (s : State) : Host.Outcome State Fault Refusal :=
  .next (s.submit ⟨0x03#8, tag, payload⟩)

/-- WRITE_FIELD (R166), kind 04h. -/
def execWriteField (tag : Octet) (payload : List Octet) (s : State) : Host.Outcome State Fault Refusal :=
  .next (s.submit ⟨0x04#8, tag, payload⟩)

/-- SET_WINDOW (R86), kind 05h. -/
def execSetWindow (tag : Octet) (payload : List Octet) (s : State) : Host.Outcome State Fault Refusal :=
  .next (s.submit ⟨0x05#8, tag, payload⟩)

/-- WRITE_GAINS (R90, R91, R92), kind 06h. -/
def execWriteGains (tag : Octet) (payload : List Octet) (s : State) : Host.Outcome State Fault Refusal :=
  .next (s.submit ⟨0x06#8, tag, payload⟩)

/-- READ_GAINS (R93), kind 07h. -/
def execReadGains (tag : Octet) (payload : List Octet) (s : State) : Host.Outcome State Fault Refusal :=
  .next (s.submit ⟨0x07#8, tag, payload⟩)

/-- MATRIX_CLEAR (R95), kind 08h. -/
def execMatrixClear (tag : Octet) (payload : List Octet) (s : State) : Host.Outcome State Fault Refusal :=
  .next (s.submit ⟨0x08#8, tag, payload⟩)

/-- QUEUE_EVENTS (R138, R139, R140), kind 09h. -/
def execQueueEvents (tag : Octet) (payload : List Octet) (s : State) : Host.Outcome State Fault Refusal :=
  .next (s.submit ⟨0x09#8, tag, payload⟩)

/-- FLUSH_QUEUE (R149), kind 0Ah. -/
def execFlushQueue (tag : Octet) (payload : List Octet) (s : State) : Host.Outcome State Fault Refusal :=
  .next (s.submit ⟨0x0A#8, tag, payload⟩)

/-- PUNCH (R127), kind 0Bh. -/
def execPunch (tag : Octet) (payload : List Octet) (s : State) : Host.Outcome State Fault Refusal :=
  .next (s.submit ⟨0x0B#8, tag, payload⟩)

/-- READ_FLAGS (R168, R180), kind 0Ch. -/
def execReadFlags (tag : Octet) (payload : List Octet) (s : State) : Host.Outcome State Fault Refusal :=
  .next (s.submit ⟨0x0C#8, tag, payload⟩)

/-- CLEAR_FLAGS (R168, R181), kind 0Dh. -/
def execClearFlags (tag : Octet) (payload : List Octet) (s : State) : Host.Outcome State Fault Refusal :=
  .next (s.submit ⟨0x0D#8, tag, payload⟩)

/-- TEST_AND_CLEAR (R168, R182), kind 0Eh. -/
def execTestAndClear (tag : Octet) (payload : List Octet) (s : State) : Host.Outcome State Fault Refusal :=
  .next (s.submit ⟨0x0E#8, tag, payload⟩)

/-- READ_COUNTERS (R168, R184), kind 0Fh. -/
def execReadCounters (tag : Octet) (payload : List Octet) (s : State) : Host.Outcome State Fault Refusal :=
  .next (s.submit ⟨0x0F#8, tag, payload⟩)

/-- ENGINE_RESET (R169), kind 10h. -/
def execEngineReset (tag : Octet) (payload : List Octet) (s : State) : Host.Outcome State Fault Refusal :=
  .next (s.submit ⟨0x10#8, tag, payload⟩)

/-- UNKNOWN_COMMAND_KIND (R158): a message of any kind; one that is not 01h..10h is answered BADKIND. -/
def execUnknownCommandKind (kind tag : Octet) (payload : List Octet) (s : State) :
    Host.Outcome State Fault Refusal :=
  .next (s.submit ⟨kind, tag, payload⟩)

end Sys2Proof.Machine
end

