-- ==== Sys2Proof/Machine/Frame.lean ====
section
/-! DEFINITION. The engine frame: takes, tracker, automation, ramps, sums, output, sweep (R12, R39, R46, R53, R57 to R59,
R75, R96, R101 to R124, R131 to R148). -/

namespace Sys2Proof.Machine

/-- What makes an engine frame (R15, R16, R132): a passing frame of link A, a failed one, or the local oscillator. -/
inductive FrameSource
  | passing (samples : Samples) (pos : Position) (rolling : Bool)
  | failed
  | oscillator
  deriving DecidableEq, Repr

/-! ### Link samples (R8, R12) -/

/-- R12: what a take makes of a buffer. -/
def Elastic.take (b : Elastic) : Elastic :=
  match b.state with
  | .idle => { b with supplied := zeroSamples }
  | .priming => { b with supplied := zeroSamples }
  | .running =>
    match b.frames with
    | [] => b
    | f :: rest => { b with frames := rest, supplied := f.samples }

/-- R12: the take finds a running buffer empty, a slip and a repeat. -/
def Elastic.runsDry (b : Elastic) : Bool := b.state == .running && b.frames.isEmpty

def State.takeBuffer (s : State) (l : Link) : State :=
  { s.setLink l { s.link l with buf := (s.link l).buf.take } with
    report := if (s.link l).buf.runsDry then (s.report.addSlip l).addCount (repeatsOf l) else s.report }

/-- The takes of one engine frame. -/
def State.takeBuffers (s : State) : State := ((s.takeBuffer .b).takeBuffer .c).takeBuffer .d

/-- R8: link A's samples for the engine frame. -/
def State.masterSamples (s : State) (src : FrameSource) : Samples :=
  match src with
  | .passing x _ _ => x
  | .failed => (s.link .a).lastGood
  | .oscillator => zeroSamples

/-- R8: the samples a link supplies to the engine frame, after the takes. -/
def State.supply (s : State) (src : FrameSource) (l : Fin 4) : Samples :=
  if l = 0 then s.masterSamples src else s.links[l].buf.supplied

/-! ### Tracker (R18, R131 to R135) -/

/-- R133: the expected position, or none after the last. -/
def Tracker.expected (t : Tracker) : Option Position :=
  if !t.rolling then some t.pos else if t.pos = 0xFFFFFFFF#32 then none else some (t.pos + 1)

/-- R18: the position carried for a failed frame; the addition wraps. -/
def Tracker.carried (t : Tracker) : Tracker := if t.rolling then { t with pos := t.pos + 1 } else t

/-- R135: a jump empties the queue. -/
def State.jump (s : State) : State :=
  (s.flush.setItem .jump).judgeLow s.queue.length

/-- R132: the engine frame's position and rolling flag, and the jump test where one is made. -/
def State.track (s : State) (src : FrameSource) : State :=
  match src with
  | .passing _ p r =>
    let s1 := { s with tracker := ⟨p, r⟩ }
    if s.tracker.expected = some p then s1 else s1.jump
  | .failed => { s with tracker := s.tracker.carried }
  | .oscillator => { s with tracker := { s.tracker with rolling := false } }

/-! ### Automation application (R142 to R145) -/

def appliedPerFrame : Nat := 8

def Move.isXpTarget : Move → Bool
  | .xpTarget _ _ _ _ => true
  | .srcTrim _ _ _ => false
  | .groupTrim _ _ _ => false
  | .busLevel _ _ _ => false
  | .srcMute _ _ => false
  | .busMute _ _ => false
  | .punchIn _ => false
  | .punchOut _ => false

/-- R144: an event applied above its due position. -/
def State.countDeferred (s : State) (due : Position) : State :=
  if due < s.tracker.pos then
    { s with report := (s.report.addCount deferredCount).setItem .deferred }
  else s

/-- R142, R145: up to n events from the head, ending at one not due or at a held XP_TARGET. -/
def State.applyDue : Nat → State → State
  | 0, s => s
  | n + 1, s =>
    match s.queue with
    | [] => s
    | e :: rest =>
      if s.tracker.pos < e.due then s
      else if e.move.isXpTarget && s.sweep.busy then s
      else State.applyDue n (({ s with queue := rest }.applyMove e.move).countDeferred e.due)

/-- R142, R148: the automation application of a rolling frame. -/
def State.automate (s : State) : State :=
  if s.tracker.rolling then (State.applyDue appliedPerFrame s).judgeLow s.queue.length else s

/-! ### Ramp and punch advance (R53, R65, R75, R124) -/

def Chan.advance (c : Chan) : Chan := { c with trim := c.trim.advance, mute := c.mute.advance }

def Group.advance (g : Group) : Group := { g with trim := g.trim.advance }

def Bus.advance (b : Bus) : Bus := { b with level := b.level.advance, muteRamp := b.muteRamp.advance }

/-- R53, R65, R75: every dedicated ramp and every pool entry advances by one step. -/
def State.advanceRamps (s : State) : State :=
  { s with
    chans := mapAll Chan.advance s.chans
    groups := mapAll Group.advance s.groups
    buses := mapAll Bus.advance s.buses
    matrix := s.matrix.advance }

/-- R124: every slot makes its punch advance; those that arrive set their items in ascending order of slot (DESIGN CHOICE, log
entry 9). -/
def State.advancePunches (s : State) : State := (List.finRange 128).foldl State.advanceSlot s

/-! ### Channel samples (R39, R46) -/

/-- R39: the raw sample of channel i. -/
def State.rawSample (s : State) (src : FrameSource) (i : Fin 192) : Int :=
  match feeder s.ingress i with
  | none => 0
  | some w => (s.supply src (windowLink w)).toList.getD (s.ingress[w].first + (i.val - s.ingress[w].chan)) 0

/-- R46: the channel sample, after polarity. -/
def polarise (p : Polarity) (x : Int) : Int :=
  match p with
  | .normal => x
  | .inverted => sat24 (-x)

/-- R57, R58: the group component, 0 for a channel with no group. -/
def State.groupCode (s : State) (i : Fin 192) : Int :=
  match s.chans[i].group with
  | none => 0
  | some g => s.groups[g].trim.cur

/-! ### The summing core (R101 to R113) -/

/-- R57, R58: the components of a crosspoint's effective code. -/
def State.xpCodes (s : State) (r : Fin 256) (c : Fin 64) : List Int :=
  if h : r.val < 192 then
    [(s.matrix.cell r c).cur, s.chans[r.val].trim.cur, s.groupCode ⟨r.val, h⟩, s.chans[r.val].mute.cur]
  else [(s.matrix.cell r c).cur]

/-- R103: the row sample, from the channel samples and the bus outputs computed so far in the frame. -/
def rowSample (xs : Vector Int 192) (ys : Vector Int 64) (r : Fin 256) : Int :=
  if h : r.val < 192 then xs[r.val] else ys[r.val - 192]

/-- R104, R105: the accumulator of bus c, the exact sum of its 256 products. -/
def State.accumulate (s : State) (xs : Vector Int 192) (ys : Vector Int 64) (c : Fin 64) : Int :=
  ((List.finRange 256).map fun r => rowSample xs ys r * (multiplier (s.xpCodes r c) : Int)).sum

/-- R58: the components of bus c's post-sum code. -/
def State.postCodes (s : State) (c : Fin 64) : List Int := [s.buses[c].level.cur, s.buses[c].muteRamp.cur]

/-- A bus's output and whether it clipped (R106 to R110). -/
structure BusResult where
  out : Int
  clipped : Bool
  deriving DecidableEq, Repr

/-- R106, R107, R108, R110: scaling, saturation, bus level, saturation. -/
def busResult (acc : Int) (gbus : Nat) : BusResult :=
  let s0 := scaleHalfUp acc
  let s1 := sat24 s0
  let y0 := scaleHalfUp (s1 * (gbus : Int))
  ⟨sat24 y0, s1 != s0 || sat24 y0 != y0⟩

/-- R101: the buses in ascending order of tier. -/
def State.busOrder (s : State) : List (Fin 64) :=
  (List.finRange 4).flatMap fun t => (List.finRange 64).filter fun b => s.buses[b].tier == t

/-- What the sums of a frame have given so far: outputs and clips. -/
structure Sums where
  out : Vector Int 64
  clipped : Vector Bool 64
  deriving DecidableEq, Repr

/-- One bus computed and its output made known to the buses after it (R101, R103). -/
def State.computeBus (s : State) (xs : Vector Int 192) (a : Sums) (c : Fin 64) : Sums :=
  let r := busResult (s.accumulate xs a.out c) (multiplier (s.postCodes c))
  ⟨a.out.set c r.out, a.clipped.set c r.clipped⟩

def noSums : Sums := ⟨Vector.replicate 64 0, Vector.replicate 64 false⟩

/-- R101: all 64 buses, tier by tier. -/
def State.computeBuses (s : State) (xs : Vector Int 192) : Sums := s.busOrder.foldl (s.computeBus xs) noSums

/-- R111, R112: bus c's clip state, and the onset's item and count. -/
def State.noteClip (clipped : Vector Bool 64) (s : State) (c : Fin 64) : State :=
  { s with
    buses := s.buses.set c { s.buses[c] with clipping := clipped[c] }
    report :=
      if clipped[c] && !s.buses[c].clipping then (s.report.setItem (.clip c)).addCount (clipCountOf c)
      else s.report }

def State.noteClips (s : State) (clipped : Vector Bool 64) : State :=
  s.busOrder.foldl (State.noteClip clipped) s

/-! ### The output stage (R117 to R121) -/

/-- R58: the components of channel i's direct-out code. -/
def State.directCodes (s : State) (i : Fin 192) : List Int :=
  [s.chans[i].trim.cur, s.groupCode i, s.chans[i].mute.cur]

/-- R121: the crossfade of live v and replay p at position k of L. -/
def crossfade (v p : Int) (k len : Nat) : Int :=
  (2 * (v * (k : Int) + p * ((len : Int) - (k : Int))) + (len : Int)) / (2 * (len : Int))

/-- R118, R119, R121: the output of a slot. -/
def State.slotOut (s : State) (raw xs : Vector Int 192) (ys : Vector Int 64) (t : Slot) : Int :=
  match t.use with
  | .off => 0
  | .bus b => ys[b]
  | .direct i => sat24 (scaleHalfUp (xs[i] * (multiplier (s.directCodes i) : Int)))
  | .punch b p st k =>
    if t.len = 0 then (if st = .live then ys[b] else raw[p]) else crossfade ys[b] raw[p] k t.len

/-- Slots 0..63 go to X, 64..127 to Y (R2, R114, R117). -/
def State.outputs (s : State) (raw xs : Vector Int 192) (ys : Vector Int 64) (base : Nat) (h : base ≤ 64) : Samples :=
  Vector.ofFn fun j => s.slotOut raw xs ys s.egress[base + j.val]

/-- R102, R111, R117: what a frame computes from its samples and codes, and the results held. -/
def State.computeFrame (s : State) (src : FrameSource) : State :=
  let raw : Vector Int 192 := Vector.ofFn fun i => s.rawSample src i
  let xs : Vector Int 192 := Vector.ofFn fun i => polarise s.chans[i].polarity raw[i]
  let sums := s.computeBuses xs
  (s.noteClips sums.clipped).holdResults (s.outputs raw xs sums.out 0 (by omega))
    (s.outputs raw xs sums.out 64 (by omega))

/-- How an engine frame begins: composition (R19), the coalescing timer (R177), the buffers' takes (R12). -/
def State.frameStart (s : State) : State :=
  let s1 := s.compose
  { s1 with report := s1.report.lowerTimer }.takeBuffers

/-- An engine frame up to its ramp advance: then the tracker (R132) and the automation application (R142). -/
def State.frameEvents (s : State) (src : FrameSource) : State := (s.frameStart.track src).automate

/-- The part of an engine frame before its sums: then the ramp advance (R75) and the punch advance (R124). -/
def State.frameMoves (s : State) (src : FrameSource) : State := (s.frameEvents src).advanceRamps.advancePunches

/-- One engine frame. The sweep's visits come last (R96). -/
def State.engineFrame (s : State) (src : FrameSource) : State := ((s.frameMoves src).computeFrame src).sweepVisits

end Sys2Proof.Machine
end

