-- ==== Sys2Proof/Machine/EngineEvents.lean ====
section
/-! DEFINITION. START_UP_RESET, and the five events that come about inside an engine frame or at a notice's end. As a command
each of the five is that event alone, by the same operation the engine frame uses, where it is one step away; where it is
not, nothing comes about (log entry 6). -/

namespace Sys2Proof.Machine

/-- START_UP_RESET (R185 and the start-up value of every rule). -/
def execStartUpReset (s : State) : Host.Outcome State Fault Refusal :=
  .next { State.reset with pending := s.pending }

/-- RAMP_COMPLETION (R75, R76): the last advance of the crosspoint's entry, which is freed and handed out. -/
def execRampCompletion (r : Fin 256) (c : Fin 64) (s : State) : Host.Outcome State Fault Refusal :=
  match s.matrix.entry r c with
  | some e => .next (if e.lastStep then { s with matrix := s.matrix.completeEntry e } else s)
  | none => .next s

/-- PUNCH_ARRIVAL (R124): the advance that brings the slot to L or 0. -/
def execPunchArrival (i : Fin 128) (s : State) : Host.Outcome State Fault Refusal :=
  .next (if s.egress[i].arrives then s.advanceSlot i else s)

/-- SWEEP_COMPLETION (R97): the visits that reach row 255, and the sweep goes IDLE. -/
def execSweepCompletion (s : State) : Host.Outcome State Fault Refusal :=
  .next (if s.sweep.busy ∧ s.sweep.left ≤ sweepStep then s.sweepVisits else s)

/-- COALESCING_TIMER_EXPIRY (R177): the running timer reaches 0. -/
def execCoalescingTimerExpiry (s : State) : Host.Outcome State Fault Refusal :=
  match s.report.timer with
  | some n => .next (if n ≤ 1 then { s with report := s.report.lowerTimer } else s)
  | none => .next s

/-- NOTICE_COMPOSITION (R178, R179): a due notice is composed when none is in transmission. -/
def execNoticeComposition (s : State) : Host.Outcome State Fault Refusal :=
  .next { s with report := s.report.composeIfDue }

end Sys2Proof.Machine
end

