-- ==== Sys2Proof/Machine/LinkEvents.lean ====
section
/-! DEFINITION. The commands that are events of the links and of the local oscillator: PASSING_FRAME, BAD_FRAME,
MISSING_FRAME, OSCILLATOR_PERIOD (R4, R5, R9, R15 to R18). -/

namespace Sys2Proof.Machine

/-- R15: an A event after which link A is ACCEPTED and the clock LOCKED makes an engine frame. -/
def State.paced (s : State) : Bool := (s.link .a).state == .accepted && s.clock.state == .locked

/-- Up to n messages taken one after another while `p` holds of the engine (R158). -/
def State.takesWhile (p : State → Bool) : Nat → State → State
  | 0, s => s
  | n + 1, s => if p s then State.takesWhile p n s.takeMessage else s

/-- R15, R158: the end of an event of link l, n messages being taken before its engine frame. A command that takes the clock
out of LOCKED ends the takes, for then the event makes no engine frame. -/
def State.endEvent (s : State) (l : Link) (n : Nat) (src : FrameSource) : State :=
  if l = .a then
    let t := State.takesWhile State.paced n s
    if t.paced = true then t.engineFrame src else t
  else s

/-- R9: link A's four lane octets reach the framer; those of B, C and D are ignored. -/
def State.readLane (s : State) (l : Link) (lane : List Octet) : State := if l = .a then s.takeLane lane else s

/-- A passing frame at its receiver: the link, the interval, the lane (R4, R9, R17). -/
def State.takeFrame (s : State) (l : Link) (f : LinkFrame) (interval : Nat) : State :=
  ((s.receive l f).noteArrival l s.clock.state interval).readLane l f.lane

/-- A passing frame whole (R4, R15, R156, R158). The messages that wait when the receiver has taken the frame are taken before
the engine frame, those that waited already and up to `late` of those that the frame has completed (log entry 5). At a full
command queue the completion comes before these takes (R187: DESIGN CHOICE, log entry 27). -/
def State.passEvent (s : State) (l : Link) (f : LinkFrame) (interval late : Nat) : State :=
  (s.takeFrame l f interval).endEvent l (s.commands.length + late) (.passing f.samples f.pos f.rolling)

/-- A bad frame whole (R4, R8, R15, R155, R158). Link A's REPEATS is counted at the receiver, before the takes: when a
WRITE_TABLE so taken takes A out of ACCEPTED and no engine frame is made, the count stands (DESIGN CHOICE, log entry 29). -/
def State.badEvent (s : State) (l : Link) (interval : Nat) : State :=
  if (s.link l).state = .absent then s
  else
    (((s.failFrame l true).noteArrival l s.clock.state interval).breakLane l (s.link l).state).endEvent l
      s.commands.length .failed

/-- A missing-frame declaration whole (R5, R8, R15, R155, R158). None is declared in ABSENT (log entry 11); REPEATS is
counted as in `badEvent` (log entry 29). -/
def State.missingEvent (s : State) (l : Link) : State :=
  if (s.link l).state = .absent then s
  else
    (((s.failFrame l false).noteMissed l).breakLane l (s.link l).state).endEvent l s.commands.length .failed

/-- The clock is FREE, and the oscillator paces the engine (R14, R16). -/
def State.free (s : State) : Bool := s.clock.state == .free

/-- The end of an oscillator period (R16, R158): the messages that wait are taken, and the engine frame is made. In LOCKED, and
when a command takes the clock there, the oscillator makes none (R15). -/
def State.periodEvent (s : State) : State :=
  let t := State.takesWhile State.free s.commands.length s
  if t.free = true then t.engineFrame .oscillator else t

/-- PASSING_FRAME (R4). Octets that fail a frame check are a bad frame (log entry 10). The `early` takes come before
the receiver, and so before a message that the frame completes (R187, log entry 27). -/
def execPassingFrame (l : Link) (octets : List Octet) (interval : Nat) (takes : Takes) (s : State) :
    Host.Outcome State Fault Refusal :=
  let s0 := State.takeMessages takes.early s
  match parseFrame octets with
  | some f => .next (s0.passEvent l f interval takes.late)
  | none => .next (s0.badEvent l interval)

/-- BAD_FRAME (R4). -/
def execBadFrame (l : Link) (interval : Nat) (s : State) : Host.Outcome State Fault Refusal := .next (s.badEvent l interval)

/-- MISSING_FRAME (R5). -/
def execMissingFrame (l : Link) (s : State) : Host.Outcome State Fault Refusal := .next (s.missingEvent l)

/-- OSCILLATOR_PERIOD (R16). -/
def execOscillatorPeriod (s : State) : Host.Outcome State Fault Refusal := .next s.periodEvent

end Sys2Proof.Machine
end

