-- ==== Sys2Proof/Machine/Dispatch.lean ====
section
/-! DEFINITION. One arm per row of the table of operations and events, each a call of that row's meaning. -/

namespace Sys2Proof.Machine

def exec (i : Instr) (s : State) : Host.Outcome State Fault Refusal :=
  match i with
  | .passingFrame l o dt n => Sys2Proof.Machine.execPassingFrame l o dt n s
  | .badFrame l dt => Sys2Proof.Machine.execBadFrame l dt s
  | .missingFrame l => Sys2Proof.Machine.execMissingFrame l s
  | .oscillatorPeriod => Sys2Proof.Machine.execOscillatorPeriod s
  | .startUpReset => Sys2Proof.Machine.execStartUpReset s
  | .rampCompletion r c => Sys2Proof.Machine.execRampCompletion r c s
  | .punchArrival t => Sys2Proof.Machine.execPunchArrival t s
  | .sweepCompletion => Sys2Proof.Machine.execSweepCompletion s
  | .coalescingTimerExpiry => Sys2Proof.Machine.execCoalescingTimerExpiry s
  | .noticeComposition => Sys2Proof.Machine.execNoticeComposition s
  | .status tag p => Sys2Proof.Machine.execStatus tag p s
  | .readTable tag p => Sys2Proof.Machine.execReadTable tag p s
  | .writeTable tag p => Sys2Proof.Machine.execWriteTable tag p s
  | .writeField tag p => Sys2Proof.Machine.execWriteField tag p s
  | .setWindow tag p => Sys2Proof.Machine.execSetWindow tag p s
  | .writeGains tag p => Sys2Proof.Machine.execWriteGains tag p s
  | .readGains tag p => Sys2Proof.Machine.execReadGains tag p s
  | .matrixClear tag p => Sys2Proof.Machine.execMatrixClear tag p s
  | .queueEvents tag p => Sys2Proof.Machine.execQueueEvents tag p s
  | .flushQueue tag p => Sys2Proof.Machine.execFlushQueue tag p s
  | .punch tag p => Sys2Proof.Machine.execPunch tag p s
  | .readFlags tag p => Sys2Proof.Machine.execReadFlags tag p s
  | .clearFlags tag p => Sys2Proof.Machine.execClearFlags tag p s
  | .testAndClear tag p => Sys2Proof.Machine.execTestAndClear tag p s
  | .readCounters tag p => Sys2Proof.Machine.execReadCounters tag p s
  | .engineReset tag p => Sys2Proof.Machine.execEngineReset tag p s
  | .unknownCommandKind k tag p => Sys2Proof.Machine.execUnknownCommandKind k tag p s

end Sys2Proof.Machine
end

