-- ==== Sys2Proof/WellFormed.lean ====
section
/-! DEFINITION. Which commands the world can send: a passing frame passes, a message fits its 64 octets, and an unknown
kind is unknown. -/

namespace Sys2Proof

/-- The kinds 01h..10h (R158). -/
def knownKind (k : Octet) : Bool := decide (1 ≤ k.toNat ∧ k.toNat ≤ 16)

/-- A message is 6..64 octets, so its payload is at most 58 (R153). -/
def payloadFits (p : List Octet) : Bool := decide (p.length ≤ 58)

/-- The commands that R4, R153 and R158 admit as what their rows name. -/
def wellFormed : Instr → Bool
  | .passingFrame _ o _ _ => Machine.framePasses o
  | .badFrame _ _ => true
  | .missingFrame _ => true
  | .oscillatorPeriod => true
  | .startUpReset => true
  | .rampCompletion _ _ => true
  | .punchArrival _ => true
  | .sweepCompletion => true
  | .coalescingTimerExpiry => true
  | .noticeComposition => true
  | .status _ p => payloadFits p
  | .readTable _ p => payloadFits p
  | .writeTable _ p => payloadFits p
  | .writeField _ p => payloadFits p
  | .setWindow _ p => payloadFits p
  | .writeGains _ p => payloadFits p
  | .readGains _ p => payloadFits p
  | .matrixClear _ p => payloadFits p
  | .queueEvents _ p => payloadFits p
  | .flushQueue _ p => payloadFits p
  | .punch _ p => payloadFits p
  | .readFlags _ p => payloadFits p
  | .clearFlags _ p => payloadFits p
  | .testAndClear _ p => payloadFits p
  | .readCounters _ p => payloadFits p
  | .engineReset _ p => payloadFits p
  | .unknownCommandKind k _ p => !knownKind k && payloadFits p

end Sys2Proof
end

