-- ==== Sys2Proof/Safety.lean ====
section
/-! DEFINITION. What the statements speak of: the message a controller command is, the state in which the command processor
answers at once, and the properties that every step keeps. -/

namespace Sys2Proof.Machine

/-- The message that a command of the console controller is (R153, R158, R171); none for the other rows. -/
def messageOf : Instr → Option Message
  | .passingFrame _ _ _ _ => none
  | .badFrame _ _ => none
  | .missingFrame _ => none
  | .oscillatorPeriod => none
  | .startUpReset => none
  | .rampCompletion _ _ => none
  | .punchArrival _ => none
  | .sweepCompletion => none
  | .coalescingTimerExpiry => none
  | .noticeComposition => none
  | .status tag p => some ⟨0x01#8, tag, p⟩
  | .readTable tag p => some ⟨0x02#8, tag, p⟩
  | .writeTable tag p => some ⟨0x03#8, tag, p⟩
  | .writeField tag p => some ⟨0x04#8, tag, p⟩
  | .setWindow tag p => some ⟨0x05#8, tag, p⟩
  | .writeGains tag p => some ⟨0x06#8, tag, p⟩
  | .readGains tag p => some ⟨0x07#8, tag, p⟩
  | .matrixClear tag p => some ⟨0x08#8, tag, p⟩
  | .queueEvents tag p => some ⟨0x09#8, tag, p⟩
  | .flushQueue tag p => some ⟨0x0A#8, tag, p⟩
  | .punch tag p => some ⟨0x0B#8, tag, p⟩
  | .readFlags tag p => some ⟨0x0C#8, tag, p⟩
  | .clearFlags tag p => some ⟨0x0D#8, tag, p⟩
  | .testAndClear tag p => some ⟨0x0E#8, tag, p⟩
  | .readCounters tag p => some ⟨0x0F#8, tag, p⟩
  | .engineReset tag p => some ⟨0x10#8, tag, p⟩
  | .unknownCommandKind k tag p => some ⟨k, tag, p⟩

/-- No message waits and the response queue has room, so a message handed on is taken at once (R158). -/
def State.ready (s : State) : Prop := s.commands = [] ∧ s.responses.length < 16

/-- The state with one more response at the tail of the response queue (R158, R159). -/
def State.respond (s : State) (kind tag : Octet) (payload : List Octet) : State :=
  { s with responses := s.responses ++ [⟨kind, tag, payload⟩] }

/-! ### What a record of EGRESS makes of a slot (R114, R115, R126) -/

/-- R115, R120: the slot is in TO_LIVE or TO_REPLAY. -/
def Slot.crossfades (t : Slot) : Prop := ∃ b p k, t.use = .punch b p .toLive k ∨ t.use = .punch b p .toReplay k

/-- R115: the record's kind, index, replay channel or class is out of range. -/
def slotRefused (kind idx rep cls : Nat) : Prop :=
  3 < kind ∨ (kind = 1 ∧ 63 < idx) ∨ (kind = 2 ∧ 191 < idx) ∨ (kind = 3 ∧ (63 < idx ∨ 191 < rep)) ∨ 7 < cls

/-- R115, R126: `new` is the slot `old` once a record of these four numbers is written: a PUNCH slot in LIVE stays LIVE at the
length of its class, and any other becomes a PUNCH slot in REPLAY at 0. -/
def slotMade (old : Slot) (kind idx rep cls : Nat) (new : Slot) : Prop :=
  new.cls.val = cls ∧
    match new.use with
    | .off => kind = 0
    | .bus b => kind = 1 ∧ idx = b.val
    | .direct i => kind = 2 ∧ idx = i.val
    | .punch b p .replay k =>
      kind = 3 ∧ idx = b.val ∧ rep = p.val ∧ k = 0 ∧ ∀ b' p' k', old.use ≠ .punch b' p' .live k'
    | .punch b p .live k =>
      kind = 3 ∧ idx = b.val ∧ rep = p.val ∧ k = rampLen new.cls ∧
        ∃ b' p', old.use = .punch b' p' .live (rampLen old.cls)
    | .punch _ _ .toLive _ => False
    | .punch _ _ .toReplay _ => False

/-! ### The handing out of an entry (R72, R75, R76) -/

/-- R76: `m'` is `m` once the entry of crosspoint (r, c) is freed and handed out: the oldest waiting crosspoint whose current
code differs from its target has it, those before it have left the list, and every other entry and code is as it was. -/
def HandedOut (m m' : Matrix) (r : Fin 256) (c : Fin 64) : Prop :=
  m'.entry r c = none ∧
  (∀ (r' : Fin 256) (c' : Fin 64), ¬(r' = r ∧ c' = c) →
    (m'.cell r' c').cur = (m.cell r' c').cur ∧ (m'.cell r' c').tgt = (m.cell r' c').tgt ∧
      ∀ e, m.entry r' c' = some e → m'.entry r' c' = some e) ∧
  ((∀ w ∈ m.waiting, (m.cell w.row w.col).cur = (m.cell w.row w.col).tgt) →
    m'.waiting = [] ∧ m'.pool.length + 1 = m.pool.length ∧ ∀ (r' : Fin 256) (c' : Fin 64), (m'.cell r' c').pend = false) ∧
  ∀ before w after, m.waiting = before ++ w :: after →
    (∀ v ∈ before, (m.cell v.row v.col).cur = (m.cell v.row v.col).tgt) →
    (m.cell w.row w.col).cur ≠ (m.cell w.row w.col).tgt →
    m'.waiting = after ∧ m'.pool.length = m.pool.length ∧
      m'.entry w.row w.col =
        some ⟨w.row, w.col, ⟨(m.cell w.row w.col).cur, (m.cell w.row w.col).tgt, rampLen w.cls, 0⟩⟩ ∧
      ∀ v ∈ before ++ [w], (m'.cell v.row v.col).pend = false

/-! ### The events of a QUEUE_EVENTS (R137, R139, R140) -/

/-- R139: the transport has passed the event's due position. -/
def State.late (s : State) (e : AutoEvent) : Prop :=
  if s.tracker.rolling then e.due ≤ s.tracker.pos else e.due < s.tracker.pos

/-- R137, R139, R140: `t` is `s` once event e is taken: applied at once and counted in LATE, or in its place behind every event
due at or before it. -/
def State.EventTaken (s : State) (e : AutoEvent) (t : State) : Prop :=
  (s.late e ∧ t = { s.applyMove e.move with report := ((s.applyMove e.move).report.addCount 15).setItem .late }) ∨
  (¬s.late e ∧ s.queue.length < 512 ∧
    t = { s with
      queue := (s.queue.filter fun f : AutoEvent => decide (f.due ≤ e.due)) ++ e ::
        s.queue.filter fun f : AutoEvent => decide (e.due < f.due) })

/-! ### Properties that every step keeps -/

/-- R137: at most 512 events, in ascending order of due position. -/
def QueueOk (s : State) : Prop := s.queue.length ≤ 512 ∧ s.queue.Pairwise fun e f => e.due ≤ f.due

/-- R183: no counter exceeds 65,535. -/
def CountersOk (s : State) : Prop := ∀ n : Fin 84, s.report.counters[n] ≤ 65535

/-- What the framer holds in BODY: a start octet, a length octet of 6..64, and fewer octets than that length (R152, R153). -/
def Framer.ok : Framer → Prop
  | .hunt => True
  | .length => True
  | .body held =>
    2 ≤ held.length ∧ held.getD 0 0 = 0xC3#8 ∧ 6 ≤ (held.getD 1 0).toNat ∧ (held.getD 1 0).toNat ≤ 64 ∧
      held.length < (held.getD 1 0).toNat

/-- R157, R159, R152: each queue of the command channel holds at most 16, and the framer's holding is a message begun. -/
def ChannelOk (s : State) : Prop := s.commands.length ≤ 16 ∧ s.responses.length ≤ 16 ∧ s.framer.ok

/-- R14, R134: the clock is LOCKED exactly while link A is ACCEPTED, and in FREE the transport is stopped. -/
def ClockOk (s : State) : Prop :=
  (s.clock.state = .locked ↔ (s.link .a).state = .accepted) ∧ (s.clock.state = .free → s.tracker.rolling = false)

/-- R10, R22 to R30: what a receiver's parts say of each other; link A has no buffer. -/
def Receiver.ok (l : Link) (r : Receiver) : Prop :=
  r.badRun ≤ 7 ∧ (r.state = .absent ↔ r.ann = none) ∧ (r.state = .sensing → r.run ≤ 15) ∧
    r.buf.frames.length ≤ 4 ∧ (r.buf.state = .priming → r.buf.frames.length ≤ 1) ∧
    (r.buf.state = .idle ↔ l = .a ∨ r.state ≠ .accepted) ∧ (r.buf.state = .idle → r.buf.frames = [])

def ReceiversOk (s : State) : Prop := ∀ l : Link, (s.link l).ok l

/-- R120: REPLAY stands at 0, LIVE at L, and a crossfading slot, whose L is not 0, between them. -/
def Slot.ok (t : Slot) : Prop :=
  match t.use with
  | .off => True
  | .bus _ => True
  | .direct _ => True
  | .punch _ _ .replay k => k = 0
  | .punch _ _ .live k => k = t.len
  | .punch _ _ .toLive k => 0 < t.len ∧ k ≤ t.len
  | .punch _ _ .toReplay k => 0 < t.len ∧ k ≤ t.len

def PunchOk (s : State) : Prop := ∀ t : Fin 128, s.egress[t].ok

/-- R70, R71, R80: a pool of at most 1,024 entries, one for a crosspoint, each an unfinished ramp of class 1..7 that its
crosspoint stands on; a pending list that holds each crosspoint once, marks exactly those it holds, and is empty while an
entry is free; and every other crosspoint at its target. -/
def MatrixOk (m : Matrix) : Prop :=
  m.pool.length ≤ 1024 ∧
  m.pool.Pairwise (fun e f => xpKey e.row e.col < xpKey f.row f.col) ∧
  (∀ e ∈ m.pool, 48 ≤ e.ramp.len ∧ e.ramp.len ≤ 4800 ∧ e.ramp.k < e.ramp.len ∧
    m.cell e.row e.col = ⟨e.ramp.cur, e.ramp.target, false⟩) ∧
  m.waiting.Pairwise (fun v w => ¬(v.row = w.row ∧ v.col = w.col)) ∧
  (∀ w ∈ m.waiting, w.cls ≠ 0 ∧ (m.cell w.row w.col).pend = true) ∧
  (m.waiting ≠ [] → m.pool.length = 1024) ∧
  (∀ (r : Fin 256) (c : Fin 64), (m.cell r c).pend = true → ∃ w ∈ m.waiting, w.row = r ∧ w.col = c) ∧
  (∀ (r : Fin 256) (c : Fin 64), m.entry r c = none → (m.cell r c).pend = false → (m.cell r c).cur = (m.cell r c).tgt)

/-- R82: the tier law. -/
def TierLaw (s : State) : Prop :=
  ∀ b c : Fin 64, (s.matrix.cell (busRow b) c).nonOff = true → s.buses[b].tier < s.buses[c].tier

/-- A code of a component that takes written codes (R56). -/
def inGainRange (x : Int) : Prop := -960 ≤ x ∧ x ≤ 96

/-- A code of a mute component (R50, R56, R68). -/
def inMuteRange (x : Int) : Prop := -960 ≤ x ∧ x ≤ 0

def Ramp.within (p : Int → Prop) (r : Ramp) : Prop := p r.start ∧ p r.target

/-- The code an event carries is in range (R136). -/
def Move.codeOk : Move → Prop
  | .xpTarget _ _ code _ => inGainRange code
  | .srcTrim _ code _ => inGainRange code
  | .groupTrim _ code _ => inGainRange code
  | .busLevel _ code _ => inGainRange code
  | .srcMute _ _ => True
  | .busMute _ _ => True
  | .punchIn _ => True
  | .punchOut _ => True

/-- R56, R136: every stored and every ramping code lies in its component's range. -/
def CodesOk (s : State) : Prop :=
  (∀ (r : Fin 256) (c : Fin 64), inGainRange (s.matrix.cell r c).cur ∧ inGainRange (s.matrix.cell r c).tgt) ∧
  (∀ e ∈ s.matrix.pool, e.ramp.within inGainRange) ∧
  (∀ i : Fin 192, s.chans[i].trim.within inGainRange ∧ s.chans[i].mute.within inMuteRange) ∧
  (∀ g : Fin 32, s.groups[g].trim.within inGainRange) ∧
  (∀ b : Fin 64, s.buses[b].level.within inGainRange ∧ s.buses[b].muteRamp.within inMuteRange) ∧
  ∀ e ∈ s.queue, e.move.codeOk

/-- R50, R51, R68: a mute component's target is what its mutes say, and while a channel is link-muted its component stands at
−960 with no ramp in progress. -/
def MutesOk (s : State) : Prop :=
  (∀ i : Fin 192,
    s.chans[i].mute.target = (if s.chans[i].opMute = true ∨ linkMuted s.ingress s.links i = true then -960 else 0) ∧
    (linkMuted s.ingress s.links i = true → s.chans[i].mute = ⟨-960, -960, 0, 0⟩)) ∧
  ∀ b : Fin 64, s.buses[b].muteRamp.target = if s.buses[b].muted = true then -960 else 0

/-- R32, R38, R40, R41: every acceptance entry and every window is one a write could have put there, and no channel is fed by
two enabled windows. -/
def TablesOk (s : State) : Prop :=
  (∀ a : Fin 16, 1 ≤ s.accept[a].min ∧ s.accept[a].min ≤ s.accept[a].max ∧ s.accept[a].max ≤ 64) ∧
  (∀ w : Fin 16, s.ingress[w].first ≤ s.ingress[w].last ∧ s.ingress[w].last ≤ 63 ∧
    s.ingress[w].chan + (s.ingress[w].last - s.ingress[w].first) ≤ 191) ∧
  ∀ v w : Fin 16, v ≠ w → ∀ i : Fin 192, ¬(s.ingress[v].covers i.val = true ∧ s.ingress[w].covers i.val = true)

/-- R86, R87: the window's corners are in order and the counter stands inside it. -/
def WindowOk (w : MatrixWindow) : Prop :=
  w.firstRow ≤ w.row ∧ w.row ≤ w.lastRow ∧ w.firstCol ≤ w.col ∧ w.col ≤ w.lastCol

/-- R95, R96: a sweep in flight has whole engine frames of visits left. -/
def SweepOk (s : State) : Prop :=
  match s.sweep with
  | .idle => True
  | .inFlight _ left => 0 < left ∧ left ≤ 16384 ∧ left % 128 = 0

/-- A notice copy is in transmission on the lane. -/
def Lane.sendsNotice (l : Lane) : Prop := ∃ t, l.tx = some t ∧ t.traffic = .notice

/-- R161, R167, R176, R177, R178: the ranges of the four CONTROL fields; the unreported count and what its being 0 says; a due
mark waits only behind a notice in transmission, the timer stopped; a running timer has frames left; a lane holds one notice
copy at most. -/
def NoticeOk (r : Report) : Prop :=
  (1 ≤ r.control.coalCount ∧ r.control.coalCount ≤ 15 ∧ r.control.coalTimer ≤ 63 ∧ r.control.lowMark ≤ 511 ∧
    r.control.holdThreshold ≤ 15) ∧
  r.unreported ≤ 15 ∧
  (r.unreported = 0 → r.timer = none ∧ r.due = false) ∧
  (r.due = true → r.timer = none ∧ r.noticeBusy = true) ∧
  (∀ n, r.timer = some n → 1 ≤ n ∧ n ≤ 3024) ∧
  (r.laneX.waiting ≠ none → ¬r.laneX.sendsNotice) ∧ (r.laneY.waiting ≠ none → ¬r.laneY.sendsNotice)

/-- R159, R160: the response in transmission on X is the oldest of the response queue, and Y sends notices only. -/
def LanesOk (s : State) : Prop :=
  (∀ t, s.report.laneX.tx = some t → t.traffic = .response →
    ∃ m rest, s.responses = m :: rest ∧ t.rest ≠ [] ∧ t.rest <:+ m.octets) ∧
  ∀ t, s.report.laneY.tx = some t → t.traffic = .notice

end Sys2Proof.Machine
end

