-- ==== Sys2Proof/Certificates/Slice0/Obligations.lean ====
section
/-! DEFINITION. The statements for the provers. A statement whose conclusion is `exec c s = .next t` with `t` written as an
update of `s` also says the frame: every part of the state that the update does not name is as it was, the world's queue
`pending` among them. `s.ready` says that no message waits and the response queue has room (R158); a row of the controller's
commands is then a whole valid message handed on and taken at once, which is the model's reading of such a row (log entry 4).
Where one event both adds to a counter and sets an item, or sets two items, a statement gives them in the order that the rule
names them in, which is the model's choice (log entry 9). -/

open Sys2Proof Sys2Proof.Machine

/-! ### The machine as a whole -/

/-- The step takes the command at the front of the queue and runs it on the queue's rest. -/
def Obligations.StepRunsFrontCommand : Prop :=
  ∀ (s : State) (c : Instr) (rest : List Instr), s.pending = c :: rest → step s = exec c { s with pending := rest }

/-- R158, R162: on an empty queue the processor takes the oldest message if it can (log entry 7): the message leaves and is
executed, one response with its kind and tag and a status of R162 joins at the tail, and the framer, the held results, the
pair last sent and the film position stay. A controller's row at a processor with nothing to do is that same execution, so the
effects stated of the rows are those of the messages of link A's lane. -/
def Obligations.EmptyQueueTakesOldestMessage : Prop :=
  ∀ s : State,
    (s.pending = [] →
      ((s.commands = [] ∨ 16 ≤ s.responses.length) → step s = .next s) ∧
      ∀ (m : Message) (rest : List Message), s.commands = m :: rest → s.responses.length < 16 →
        let t := { s with commands := rest }.execute m
        step s = .next t ∧ t.commands = rest ∧ t.framer = s.framer ∧ t.heldOld = s.heldOld ∧ t.heldNew = s.heldNew ∧
          t.sent = s.sent ∧ t.pending = [] ∧ t.tracker.pos = s.tracker.pos ∧
          ∃ (status : Octet) (data : List Octet), status.toNat ≤ 8 ∧
            t.responses =
              s.responses ++ [⟨if m.kind.toNat < 128 then m.kind + 0x80#8 else 0xFF#8, m.tag, status :: data⟩]) ∧
    ∀ (c : Instr) (m : Message), messageOf c = some m → s.ready → exec c s = .next (s.execute m)

/-- Every command of the table completes from every state, and leaves the world's queue to the step. That no command of the
table ends in a fault or a refusal is the model's reading of the whole manual (log entry 20), and that the world's queue stays
is the model's own (log entries 8 and 18). -/
def Obligations.EveryCommandCompletes : Prop :=
  ∀ (c : Instr) (s : State), ∃ t : State, exec c s = .next t ∧ t.pending = s.pending

/-- The start-up values the manual gives, or gives by what holds nothing (R6, R7, R10, R14, R16, R17, R20, R22, R32, R38, R43,
R48, R50, R65, R66, R71, R80, R81, R87, R95, R111, R114, R131, R137, R152, R157, R159, R160, R167, R174 to R178, R183, R185).
The last clause, that the world's own queue is empty, is no value of the manual's but the model's choice (log entry 21). -/
def Obligations.ResetValues : Prop :=
  let z := State.reset
  (∀ l : Link, (z.link l).state = .absent ∧ (z.link l).ann = none ∧ (z.link l).run = 0 ∧ (z.link l).badRun = 0 ∧
    (∀ i : Fin 64, (z.link l).lastGood[i] = 0) ∧ (z.link l).buf.state = .idle ∧ (z.link l).buf.frames = []) ∧
  z.clock.state = .free ∧ z.clock.kept = [] ∧ z.clock.rate = none ∧ z.clock.currentRate = ⟨48000, 1⟩ ∧
  z.tracker = ⟨0, false⟩ ∧
  (∀ a : Fin 16, z.accept[a] = ⟨true, 1, 64⟩) ∧ (∀ w : Fin 16, z.ingress[w] = ⟨false, 0, 0, 0⟩) ∧
  (∀ i : Fin 192, z.chans[i].trim.cur = 0 ∧ z.chans[i].trim.target = 0 ∧ z.chans[i].group = none ∧
    z.chans[i].polarity = .normal ∧ z.chans[i].opMute = false ∧ z.chans[i].cls = 3 ∧ z.chans[i].mute.cur = -960 ∧
    z.chans[i].mute.target = -960) ∧
  (∀ g : Fin 32, z.groups[g].trim.cur = 0 ∧ z.groups[g].trim.target = 0 ∧ z.groups[g].cls = 3) ∧
  (∀ b : Fin 64, z.buses[b].tier = 0 ∧ z.buses[b].level.cur = 0 ∧ z.buses[b].level.target = 0 ∧ z.buses[b].muted = false ∧
    z.buses[b].cls = 3 ∧ z.buses[b].muteRamp.cur = 0 ∧ z.buses[b].muteRamp.target = 0 ∧ z.buses[b].clipping = false) ∧
  (∀ (r : Fin 256) (c : Fin 64), z.matrix.cell r c = ⟨-960, -960, false⟩) ∧
  z.matrix.pool = [] ∧ z.matrix.waiting = [] ∧ z.window = ⟨0, 255, 0, 63, .rows, .up, .up, 0, 0⟩ ∧ z.sweep = .idle ∧
  (∀ t : Fin 128, z.egress[t] = ⟨.off, 3⟩) ∧
  z.queue = [] ∧ z.framer = .hunt ∧ z.commands = [] ∧ z.responses = [] ∧
  z.report.control = ⟨1, 0, 64, 4⟩ ∧ (∀ c : Fin 8, z.report.notices[c] = ⟨.none, .onReport⟩) ∧
  (∀ c : Fin 8, z.report.items[c] = if c = 7 then 1#128 else 0#128) ∧ (∀ n : Fin 84, z.report.counters[n] = 0) ∧
  z.report.unreported = 0 ∧ z.report.timer = none ∧ z.report.due = false ∧
  z.report.laneX = ⟨none, none⟩ ∧ z.report.laneY = ⟨none, none⟩ ∧
  (∀ h ∈ [z.heldOld, z.heldNew], h.pos = 0 ∧ h.rolling = false ∧ ∀ i : Fin 64, h.x[i] = 0 ∧ h.y[i] = 0) ∧
  z.pending = []

/-- START_UP_RESET gives every part its start-up value; the commands the world has still to give stay (model's choice, log
entry 8). -/
def Obligations.StartUpResetGivesStartUpState : Prop :=
  ∀ s : State, exec .startUpReset s = .next { State.reset with pending := s.pending }

/-! ### The command channel -/

/-- R152, R154, R156: a message, with idle octets before and after it and cut into lane words in any way, leaves a hunting
framer hunting and stands whole at the tail of the command queue. -/
def Obligations.FramerDeliversWholeMessage : Prop :=
  ∀ (s : State) (m : Message) (before after : List Octet) (words : List (List Octet)),
    s.framer = .hunt → m.payload.length ≤ 58 → s.commands.length < 16 → (∀ o ∈ before ++ after, o ≠ 0xC3#8) →
    words.flatten = before ++ m.octets ++ after →
    words.foldl State.takeLane s = { s with commands := s.commands ++ [m] }

/-- R3, R4, R170: a frame laid out and checked as R170 and R3 say, of 1..64 slots, with four lane octets and samples of 24
bits, is taken whole, each field as it was sent; the slots at and beyond the slot count read zero (R6). Octets whose marker
is not B4h, whose slot count is 0 or above 64, or whose check is not that of the octets before it are no frame to take, and
PASSING_FRAME given them does what BAD_FRAME does, as it does given octets of another number than the slot count makes
(model's inference: log entry 10); the takes before the receiver are as the operand says (log entry 5). -/
def Obligations.ReceiverTakesFrameAsSent : Prop :=
  (∀ o : List Octet,
    let n := (o.getD 2 0).toNat % 128
    (o.getD 0 0 ≠ 0xB4#8 ∨ n = 0 ∨ 64 < n ∨ o.length ≠ 4 * (n + 4) ∨
      crc16 (o.take (4 * n + 14)) ≠ (o.getD (4 * n + 14) 0 ++ o.getD (4 * n + 15) 0 : BitVec 16)) →
    parseFrame o = none ∧
      ∀ (l : Link) (interval : Nat) (takes : Takes) (s : State),
        exec (.passingFrame l o interval takes) s = exec (.badFrame l interval) (State.takeMessages takes.early s)) ∧
  ∀ f : SentFrame, 1 ≤ f.slots → f.slots ≤ 64 → f.lane.length = 4 →
    (∀ i : Fin 64, -8388608 ≤ f.samples[i] ∧ f.samples[i] ≤ 8388607) →
    parseFrame f.octets =
      some { ann := ⟨f.cls.toFin, f.slots, f.ident⟩
             rolling := f.rolling
             pos := f.pos
             samples := Vector.ofFn fun i => if i.val < f.slots then f.samples[i] else 0
             lane := f.lane }

/-- R152, R153, R154, R156: what octets do to the framer. A runt or long message is counted and then sets its item (order: log
entry 9). The octet that completes a message hands it on when the check agrees; when it does not, the message is counted in
BAD_CHECK, CHANNEL/CHECK is set, and its octets from the one after the length octet on are taken again from HUNT. Octets are
taken one after another. -/
def Obligations.FramerStates : Prop :=
  ∀ (s : State) (o : Octet),
    (s.framer = .hunt → o = 0xC3#8 → s.takeLane [o] = { s with framer := .length }) ∧
    (s.framer = .hunt → o ≠ 0xC3#8 → s.takeLane [o] = s) ∧
    (s.framer = .length → o.toNat < 6 →
      s.takeLane [o] = { s with framer := .hunt, report := (s.report.addCount 11).setItem .runt }) ∧
    (s.framer = .length → 64 < o.toNat →
      s.takeLane [o] = { s with framer := .hunt, report := (s.report.addCount 12).setItem .long }) ∧
    (s.framer = .length → 6 ≤ o.toNat → o.toNat ≤ 64 → s.takeLane [o] = { s with framer := .body [0xC3#8, o] }) ∧
    (∀ held, s.framer = .body held → 2 ≤ held.length → held.length + 1 < (held.getD 1 0).toNat →
      s.takeLane [o] = { s with framer := .body (held ++ [o]) }) ∧
    (∀ held, s.framer = .body held → 2 ≤ held.length → 6 ≤ (held.getD 1 0).toNat →
      held.length + 1 = (held.getD 1 0).toNat →
      let all := held ++ [o]
      let n := all.length
      let agrees := crc16 ((all.drop 1).take (n - 3)) = all.getD (n - 2) 0 ++ all.getD (n - 1) 0
      (agrees → s.commands.length < 16 → s.takeLane [o] =
        { s with
          framer := .hunt
          commands := s.commands ++ [⟨all.getD 2 0, all.getD 3 0, (all.drop 4).take (n - 6)⟩] }) ∧
      (agrees → 16 ≤ s.commands.length → s.takeLane [o] =
        { s with framer := .hunt, report := (s.report.addCount 14).setItem .dropped }) ∧
      (¬agrees → s.takeLane [o] =
        { s with framer := .hunt, report := (s.report.addCount 13).setItem .check }.takeLane (all.drop 2))) ∧
    (∀ before after : List Octet, s.takeLane (before ++ after) = (s.takeLane before).takeLane after)

/-- R156, R158, R187: a message handed on joins the tail of a command queue of fewer than 16, and is otherwise discarded,
counted in DROPPED and then shown by CHANNEL/DROPPED (order: log entry 9), which at a full queue comes before any take
(model's choice, log entry 27). The processor then takes what waits, the oldest first, until none waits or the response queue
is full (`states j` is the engine when j are taken, all within the row: log entry 4). While the response queue is full it
takes nothing. -/
def Obligations.MessageWaitsOrIsDropped : Prop :=
  ∀ (c : Instr) (m : Message) (s : State), messageOf c = some m →
    let joined := { s with commands := s.commands ++ [m] }
    let dropped := { s with report := (s.report.addCount 14).setItem .dropped }
    let handed := if s.commands.length < 16 then joined else dropped
    (16 ≤ s.responses.length → exec c s = .next handed) ∧
    ∀ (states : Nat → State) (n : Nat), states 0 = handed →
      (∀ j, j < n → ∃ oldest rest, (states j).commands = oldest :: rest ∧ (states j).responses.length < 16 ∧
        states (j + 1) = { states j with commands := rest }.execute oldest) →
      ((states n).commands = [] ∨ 16 ≤ (states n).responses.length) →
      exec c s = .next (states n)

/-- R158, R162: a kind that is none of 01h..10h is answered BADKIND, with the response kind of R158 and the message's tag, and
nothing else changes. -/
def Obligations.UnknownKindAnsweredBadKind : Prop :=
  ∀ (s : State) (k tag : Octet) (p : List Octet), s.ready → (k.toNat = 0 ∨ 16 < k.toNat) →
    exec (.unknownCommandKind k tag p) s =
      .next (s.respond (if k.toNat < 128 then k + 0x80#8 else 0xFF#8) tag [0x07#8])

/-- R158, R165, R171: a payload of a length its kind does not allow is answered BADLEN alone, and nothing else changes. -/
def Obligations.WrongLengthAnsweredBadLen : Prop :=
  ∀ (s : State) (tag : Octet) (p : List Octet), s.ready →
    (p.length ≠ 0 → exec (.status tag p) s = .next (s.respond 0x81#8 tag [0x08#8])) ∧
    (p.length ≠ 3 → exec (.readTable tag p) s = .next (s.respond 0x82#8 tag [0x08#8])) ∧
    (p.length < 2 → exec (.writeTable tag p) s = .next (s.respond 0x83#8 tag [0x08#8])) ∧
    (∀ space : Fin 8, 2 ≤ p.length → (p.getD 0 0).toNat = space.val →
      (p.length = 2 ∨ (p.length - 2) % recordSize space ≠ 0) →
      exec (.writeTable tag p) s = .next (s.respond 0x83#8 tag [0x08#8])) ∧
    (p.length ≠ 5 → exec (.writeField tag p) s = .next (s.respond 0x84#8 tag [0x08#8])) ∧
    (p.length ≠ 7 → exec (.setWindow tag p) s = .next (s.respond 0x85#8 tag [0x08#8])) ∧
    ((p.length < 3 ∨ 53 < p.length ∨ p.length % 2 = 0) →
      exec (.writeGains tag p) s = .next (s.respond 0x86#8 tag [0x08#8])) ∧
    (p.length ≠ 1 → exec (.readGains tag p) s = .next (s.respond 0x87#8 tag [0x08#8])) ∧
    (p.length ≠ 1 → exec (.matrixClear tag p) s = .next (s.respond 0x88#8 tag [0x08#8])) ∧
    ((p.length = 0 ∨ 50 < p.length ∨ p.length % 10 ≠ 0) →
      exec (.queueEvents tag p) s = .next (s.respond 0x89#8 tag [0x08#8])) ∧
    (p.length ≠ 0 → exec (.flushQueue tag p) s = .next (s.respond 0x8A#8 tag [0x08#8])) ∧
    (p.length ≠ 3 → exec (.punch tag p) s = .next (s.respond 0x8B#8 tag [0x08#8])) ∧
    (p.length ≠ 0 → exec (.readFlags tag p) s = .next (s.respond 0x8C#8 tag [0x08#8])) ∧
    (p.length ≠ 17 → exec (.clearFlags tag p) s = .next (s.respond 0x8D#8 tag [0x08#8])) ∧
    (p.length ≠ 17 → exec (.testAndClear tag p) s = .next (s.respond 0x8E#8 tag [0x08#8])) ∧
    (p.length ≠ 3 → exec (.readCounters tag p) s = .next (s.respond 0x8F#8 tag [0x08#8])) ∧
    (p.length ≠ 0 → exec (.engineReset tag p) s = .next (s.respond 0x90#8 tag [0x08#8]))

/-! ### STATUS and the tables -/

/-- R163, R171: STATUS returns OK and the 31 octets of the snapshot, and changes nothing else; the room is counted after the
STATUS has left the queue, with the messages that wait behind it. That the processor takes a waiting STATUS at a step of an
empty queue is the model's choice (log entry 7). -/
def Obligations.StatusReturnsSnapshot : Prop :=
  ∀ (s : State) (tag : Octet),
    let answered := fun (t : State) (room : Nat) => t.respond 0x81#8 tag
      ([0x00#8, if t.clock.state = .locked then 1#8 else 0#8, if t.tracker.rolling then 1#8 else 0#8] ++
        octets32 t.tracker.pos ++
        ([Link.a, Link.b, Link.c, Link.d].flatMap fun l =>
          (match (t.link l).state with
            | .absent => 0#8
            | .sensing => 1#8
            | .accepted => 2#8
            | .rejected => 3#8) ::
          (match (t.link l).ann with
            | none => [0#8, 0#8, 0#8]
            | some a => [BitVec.ofNat 8 a.cls.val, BitVec.ofNat 8 a.slots, a.ident])) ++
        octets16 (BitVec.ofNat 16 t.queue.length) ++ octets16 (BitVec.ofNat 16 t.matrix.pool.length) ++
        octets16 (BitVec.ofNat 16 t.matrix.waiting.length) ++
        octets16 (BitVec.ofNat 16 (match t.sweep with | .idle => 0 | .inFlight _ left => left)) ++ [BitVec.ofNat 8 room])
    (s.ready → exec (.status tag []) s = .next (answered s 16)) ∧
    (∀ rest, s.pending = [] → s.commands = ⟨0x01#8, tag, []⟩ :: rest → s.responses.length < 16 →
      step s = .next (answered { s with commands := rest } (16 - rest.length)))

/-- R116, R164, R171, R172: READ_TABLE is answered RANGE with count 0 for a space beyond 7, a first index beyond the space or a
count of 0; otherwise it returns records from the first index on, as many as were asked for, stand in the space and fit 56
octets, OK when that is the count asked for and PARTIAL otherwise. Nothing else changes. A record is laid out as R172 gives it,
with the stored target for a code and, in EGRESS, the punch state in the upper half of the class octet. -/
def Obligations.ReadTableReturnsRecords : Prop :=
  ∀ s : State,
    (∀ tag sp first count : Octet, s.ready →
      (7 < sp.toNat → exec (.readTable tag [sp, first, count]) s = .next (s.respond 0x82#8 tag [0x03#8, 0#8])) ∧
      (∀ space : Fin 8, sp.toNat = space.val →
        let size := [5, 5, 3, 3, 4, 4, 2, 5].getD space.val 0
        let records := [192, 64, 32, 16, 16, 128, 8, 1].getD space.val 0
        let n := min count.toNat (min (records - first.toNat) (56 / size))
        (count.toNat = 0 ∨ records ≤ first.toNat →
          exec (.readTable tag [sp, first, count]) s = .next (s.respond 0x82#8 tag [0x03#8, 0#8])) ∧
        (1 ≤ count.toNat → first.toNat < records →
          exec (.readTable tag [sp, first, count]) s = .next (s.respond 0x82#8 tag
            ([if n = count.toNat then 0x00#8 else 0x01#8, BitVec.ofNat 8 n] ++
              (List.range n).flatMap fun j => s.readRecord space (first.toNat + j)))))) ∧
    (let code := fun x : Int => octets16 (BitVec.ofInt 16 x)
     let flag := fun b : Bool => if b then 1#8 else 0#8
     (∀ i : Fin 192, s.readRecord 0 i.val = code s.chans[i].trim.target ++
       [match s.chans[i].group with | none => 0xFF#8 | some g => BitVec.ofNat 8 g.val,
        (if s.chans[i].polarity = .inverted then 0x10#8 else 0x00#8) ||| flag s.chans[i].opMute,
        BitVec.ofNat 8 s.chans[i].cls.val]) ∧
     (∀ b : Fin 64, s.readRecord 1 b.val = BitVec.ofNat 8 s.buses[b].tier.val :: code s.buses[b].level.target ++
       [flag s.buses[b].muted, BitVec.ofNat 8 s.buses[b].cls.val]) ∧
     (∀ g : Fin 32, s.readRecord 2 g.val = code s.groups[g].trim.target ++ [BitVec.ofNat 8 s.groups[g].cls.val]) ∧
     (∀ a : Fin 16, s.readRecord 3 a.val =
       [flag s.accept[a].accept, BitVec.ofNat 8 s.accept[a].min, BitVec.ofNat 8 s.accept[a].max]) ∧
     (∀ w : Fin 16, s.readRecord 4 w.val =
       [flag s.ingress[w].enabled, BitVec.ofNat 8 s.ingress[w].first, BitVec.ofNat 8 s.ingress[w].last,
        BitVec.ofNat 8 s.ingress[w].chan]) ∧
     (∀ t : Fin 128, s.readRecord 5 t.val =
       (match s.egress[t].use with
        | .off => [0x00#8, 0x00#8, 0x00#8]
        | .bus b => [0x01#8, BitVec.ofNat 8 b.val, 0x00#8]
        | .direct i => [0x02#8, BitVec.ofNat 8 i.val, 0x00#8]
        | .punch b p _ _ => [0x03#8, BitVec.ofNat 8 b.val, BitVec.ofNat 8 p.val]) ++
       [(match s.egress[t].use with
         | .punch _ _ .replay _ => 0x10#8
         | .punch _ _ .toLive _ => 0x20#8
         | .punch _ _ .live _ => 0x30#8
         | .punch _ _ .toReplay _ => 0x40#8
         | _ => 0x00#8) ||| BitVec.ofNat 8 s.egress[t].cls.val]) ∧
     (∀ c : Fin 8, s.readRecord 6 c.val =
       [match s.report.notices[c].steer with | .none => 0x00#8 | .x => 0x01#8 | .y => 0x02#8 | .both => 0x03#8,
        match s.report.notices[c].mode with | .onReport => 0x00#8 | .onWrite => 0x01#8]) ∧
     s.readRecord 7 0 =
       [BitVec.ofNat 8 s.report.control.coalCount, BitVec.ofNat 8 s.report.control.coalTimer] ++
         octets16 (BitVec.ofNat 16 s.report.control.lowMark) ++ [BitVec.ofNat 8 s.report.control.holdThreshold])

/-- R43, R44, R45, R51, R165, R172: a SOURCE record with every field in its range is written: the group, polarity and class; the
trim, clamped, the target of a ramp that begins again from the trim's current code over the class written; and the operator
mute, whose change moves the mute component over 480 frames unless the channel is link-muted (at −960 a ramp that stands still:
model's choice, log entry 23). A field outside its encodings or an index beyond 191 is refused with RANGE, and nothing is
written. -/
def Obligations.WriteSourceRecord : Prop :=
  ∀ (s : State) (tag idx hi lo g pm n : Octet), s.ready →
    let command := Instr.writeTable tag [0#8, idx, hi, lo, g, pm, n]
    ((191 < idx.toNat ∨ (31 < g.toNat ∧ g.toNat ≠ 255) ∨ 1 < pm.toNat / 16 ∨ 1 < pm.toNat % 16 ∨ 7 < n.toNat) →
      exec command s = .next (s.respond 0x83#8 tag [0x03#8, 0#8])) ∧
    ∀ (i : Fin 192) (group : Option (Fin 32)) (cls : Fin 8), idx.toNat = i.val →
      (match group with | none => g.toNat = 255 | some x => g.toNat = x.val) → pm.toNat / 16 ≤ 1 → pm.toNat % 16 ≤ 1 →
      n.toNat = cls.val →
      let c := s.chans[i]
      let code := clampInt (-960) 96 (hi ++ lo : BitVec 16).toInt
      let len := rampLen cls
      let on := decide (pm.toNat % 16 = 1)
      exec command s =
        .next ({ s with
          chans := s.chans.set i
            { trim := if len = 0 then ⟨code, code, 0, 0⟩ else ⟨c.trim.cur, code, len, 0⟩
              group := group
              polarity := if pm.toNat / 16 = 1 then .inverted else .normal
              opMute := on
              cls := cls
              mute := if c.opMute = on ∨ linkMuted s.ingress s.links i = true then c.mute
                else ⟨c.mute.cur, if on then -960 else 0, 480, 0⟩ } }.respond 0x83#8 tag [0x00#8, 1#8])

/-- R66, R67, R68, R81, R84, R165, R172: a BUS record with an index, tier, mute or class out of range is refused with RANGE
(also where the tier check would refuse it: the model's choice, log entry 24). One in range is refused with TIER when it gives
the bus a new tier under which a non-off crosspoint of its row or its column would be illegal, non-off going by the codes
(model's choice where the manual is of two minds, log entry 25); otherwise all four fields are written, the level's ramp
begins again over the class written, and a change of the mute moves the mute component over 480 frames. -/
def Obligations.WriteBusRecord : Prop :=
  ∀ s : State, s.ready →
    (∀ tag idx tier hi lo m n : Octet, (63 < idx.toNat ∨ 3 < tier.toNat ∨ 1 < m.toNat ∨ 7 < n.toNat) →
      exec (.writeTable tag [1#8, idx, tier, hi, lo, m, n]) s = .next (s.respond 0x83#8 tag [0x03#8, 0#8])) ∧
    ∀ (tag hi lo m n : Octet) (b : Fin 64) (tier : Fin 4) (cls : Fin 8), m.toNat ≤ 1 → n.toNat = cls.val →
      let bus := s.buses[b]
      let code := clampInt (-960) 96 (hi ++ lo : BitVec 16).toInt
      let len := rampLen cls
      let on := decide (m.toNat = 1)
      let nonOff := fun x : Xp => x.cur ≠ -960 ∨ x.tgt ≠ -960
      let refused := tier ≠ bus.tier ∧ ∃ c : Fin 64, c ≠ b ∧
        ((nonOff (s.matrix.cell (busRow b) c) ∧ s.buses[c].tier ≤ tier) ∨
          (nonOff (s.matrix.cell (busRow c) b) ∧ tier ≤ s.buses[c].tier))
      let command := Instr.writeTable tag [1#8, BitVec.ofNat 8 b.val, BitVec.ofNat 8 tier.val, hi, lo, m, n]
      (refused → exec command s = .next (s.respond 0x83#8 tag [0x04#8, 0#8])) ∧
      (¬refused → exec command s =
        .next ({ s with
          buses := s.buses.set b
            { bus with
              tier := tier
              level := if len = 0 then ⟨code, code, 0, 0⟩ else ⟨bus.level.cur, code, len, 0⟩
              muted := on
              cls := cls
              muteRamp := if bus.muted = on then bus.muteRamp
                else ⟨bus.muteRamp.cur, if on then -960 else 0, 480, 0⟩ } }.respond 0x83#8 tag [0x00#8, 1#8]))

/-- R48, R49, R167, R172, R175: GROUP, NOTICE and CONTROL records in range are written whole; a group's trim ramp begins again
over the class written. A record with an index or a field out of range is refused with RANGE and writes nothing. -/
def Obligations.WriteGroupNoticeControl : Prop :=
  ∀ (s : State) (tag : Octet), s.ready →
    let refused := fun command : Instr => exec command s = .next (s.respond 0x83#8 tag [0x03#8, 0#8])
    (∀ (g : Fin 32) (hi lo n : Octet) (cls : Fin 8), n.toNat = cls.val →
      let code := clampInt (-960) 96 (hi ++ lo : BitVec 16).toInt
      let len := rampLen cls
      exec (.writeTable tag [2#8, BitVec.ofNat 8 g.val, hi, lo, n]) s =
        .next ({ s with
          groups := s.groups.set g
            ⟨if len = 0 then ⟨code, code, 0, 0⟩ else ⟨s.groups[g].trim.cur, code, len, 0⟩, cls⟩ }.respond
          0x83#8 tag [0x00#8, 1#8])) ∧
    (∀ idx hi lo n : Octet, (31 < idx.toNat ∨ 7 < n.toNat) → refused (.writeTable tag [2#8, idx, hi, lo, n])) ∧
    (∀ (c : Fin 8) (steer : Steering) (mode : ClearMode),
      exec (.writeTable tag
        [6#8, BitVec.ofNat 8 c.val, (match steer with | .none => 0#8 | .x => 1#8 | .y => 2#8 | .both => 3#8),
          (match mode with | .onReport => 0#8 | .onWrite => 1#8)]) s =
        .next ({ s with
          report := { s.report with notices := s.report.notices.set c ⟨steer, mode⟩ } }.respond
          0x83#8 tag [0x00#8, 1#8])) ∧
    (∀ idx a m : Octet, (7 < idx.toNat ∨ 3 < a.toNat ∨ 1 < m.toNat) → refused (.writeTable tag [6#8, idx, a, m])) ∧
    (∀ idx count timer hi lo hold : Octet,
      let low := (hi ++ lo : BitVec 16).toNat
      let inRange := idx.toNat = 0 ∧ 1 ≤ count.toNat ∧ count.toNat ≤ 15 ∧ timer.toNat ≤ 63 ∧ low ≤ 511 ∧ hold.toNat ≤ 15
      let command := Instr.writeTable tag [7#8, idx, count, timer, hi, lo, hold]
      (inRange → exec command s =
        .next ({ s with
          report := { s.report with control := ⟨count.toNat, timer.toNat, low, hold.toNat⟩ } }.respond
          0x83#8 tag [0x00#8, 1#8])) ∧
      (¬inRange → refused command))

/-- R14, R17, R32 to R34, R36, R37, R134: an ACCEPT record with 1 ≤ minimum ≤ maximum ≤ 64 is written; one outside that, or of
an index beyond 15, is refused with RANGE. A link of the class, here the only one, that is ACCEPTED and no longer admitted
goes to REJECTED within the command, one REJECTED and now admitted to ACCEPTED, its buffer emptied, its LINK item set and the
mute components following R36 and R37; link A takes the clock with it, LINK/A before LINK/CLOCK (order: log entry 9). A link
whose result is the same, or that is neither ACCEPTED nor REJECTED, stays. -/
def Obligations.WriteAcceptRecord : Prop :=
  ∀ s : State, s.ready →
    (∀ tag idx a lo hi : Octet, (15 < idx.toNat ∨ 1 < a.toNat ∨ lo.toNat = 0 ∨ hi.toNat < lo.toNat ∨ 64 < hi.toNat) →
      exec (.writeTable tag [3#8, idx, a, lo, hi]) s = .next (s.respond 0x83#8 tag [0x03#8, 0#8])) ∧
    ∀ (tag a lo hi : Octet) (k : Fin 16), a.toNat ≤ 1 → 1 ≤ lo.toNat → lo.toNat ≤ hi.toNat → hi.toNat ≤ 64 →
      let command := Instr.writeTable tag [3#8, BitVec.ofNat 8 k.val, a, lo, hi]
      let written := { s with accept := s.accept.set k ⟨decide (a.toNat = 1), lo.toNat, hi.toNat⟩ }
      let answered := fun t : State => exec command s = .next (t.respond 0x83#8 tag [0x00#8, 1#8])
      ((∀ (l : Link) (n : Announcement), (s.link l).ann = some n → n.cls ≠ k) → answered written) ∧
      ∀ (l : Link) (n : Announcement), (s.link l).ann = some n → n.cls = k →
        (∀ (l' : Link) (n' : Announcement), l' ≠ l → (s.link l').ann = some n' → n'.cls ≠ k) →
        let admitted := a.toNat = 1 ∧ lo.toNat ≤ n.slots ∧ n.slots ≤ hi.toNat
        let moved := fun (st : LinkState) (buf : Elastic) (clock : Clock) (rolling : Bool) =>
          let links := s.links.set (linkIdx l) { s.link l with state := st, buf := buf }
          { written with
            links := links
            clock := if l = .a then clock else s.clock
            tracker := if l = .a then { s.tracker with rolling := rolling } else s.tracker
            report := if l = .a then (s.report.setItem (.link .a)).setItem .clock else s.report.setItem (.link l)
            chans := Vector.ofFn fun i =>
              let was := linkMuted s.ingress s.links i
              let now := linkMuted s.ingress links i
              if was = false ∧ now = true then { s.chans[i] with mute := (⟨-960, -960, 0, 0⟩ : Ramp) }
              else if was = true ∧ now = false ∧ s.chans[i].opMute = false then
                { s.chans[i] with mute := (⟨s.chans[i].mute.cur, 0, 960, 0⟩ : Ramp) }
              else s.chans[i] }
        ((s.link l).state = .accepted → admitted → answered written) ∧
        ((s.link l).state = .accepted → ¬admitted →
          answered (moved .rejected ⟨.idle, [], zeroSamples⟩ { s.clock with state := .free, kept := [], running := false }
            false)) ∧
        ((s.link l).state = .rejected → ¬admitted → answered written) ∧
        ((s.link l).state = .rejected → admitted →
          answered (moved .accepted ⟨if l = .a then .idle else .priming, [], zeroSamples⟩
            { s.clock with state := .locked, kept := [], running := false } s.tracker.rolling)) ∧
        ((s.link l).state ≠ .accepted → (s.link l).state ≠ .rejected → answered written)

/-- R36 to R38: a channel is link-muted while no enabled window covers it, or the one that does belongs to a link that is not
ACCEPTED, windows 0..3 to A, 4..7 to B, 8..11 to C, 12..15 to D. R37, R40 to R42: an INGRESS record with an index, a setting,
slots or a run of channels out of range is refused with RANGE. One in range is refused with OVERLAP when enabled and sharing a
channel with another enabled window; otherwise it is written, and each channel whose link mute it asserts steps to −960 and
each whose link mute it releases, not being operator-muted, begins the ramp of 960 frames to 0. -/
def Obligations.WriteIngressRecord : Prop :=
  let covers := fun (w : Window) (i : Nat) => w.enabled = true ∧ w.chan ≤ i ∧ i ≤ w.chan + (w.last - w.first)
  (∀ (s : State) (i : Fin 192),
    ((∀ w : Fin 16, ¬covers s.ingress[w] i) → linkMuted s.ingress s.links i = true) ∧
    ∀ (w : Fin 16) (l : Link), w.val / 4 = (match l with | .a => 0 | .b => 1 | .c => 2 | .d => 3) → covers s.ingress[w] i →
      (∀ v : Fin 16, covers s.ingress[v] i → v = w) →
      (linkMuted s.ingress s.links i = true ↔ (s.link l).state ≠ .accepted)) ∧
  ∀ s : State, s.ready →
    (∀ tag idx e first last chan : Octet,
      (15 < idx.toNat ∨ 1 < e.toNat ∨ last.toNat < first.toNat ∨ 63 < last.toNat ∨ 191 < chan.toNat ∨
        (first.toNat ≤ last.toNat ∧ 191 < chan.toNat + (last.toNat - first.toNat))) →
      exec (.writeTable tag [4#8, idx, e, first, last, chan]) s = .next (s.respond 0x83#8 tag [0x03#8, 0#8])) ∧
    ∀ (tag e first last chan : Octet) (w : Fin 16), e.toNat ≤ 1 → first.toNat ≤ last.toNat →
      last.toNat ≤ 63 → chan.toNat + (last.toNat - first.toNat) ≤ 191 →
      let window : Window := ⟨decide (e.toNat = 1), first.toNat, last.toNat, chan.toNat⟩
      let table := s.ingress.set w window
      let overlap := ∃ (v : Fin 16) (i : Nat), v ≠ w ∧ s.ingress[v].first ≤ s.ingress[v].last ∧
        covers s.ingress[v] i ∧ covers window i
      let command := Instr.writeTable tag [4#8, BitVec.ofNat 8 w.val, e, first, last, chan]
      (overlap → exec command s = .next (s.respond 0x83#8 tag [0x05#8, 0#8])) ∧
      (¬overlap → (∀ v : Fin 16, s.ingress[v].first ≤ s.ingress[v].last) → exec command s =
        .next ({ s with
          ingress := table
          chans := Vector.ofFn fun i =>
            if linkMuted s.ingress s.links i = false ∧ linkMuted table s.links i = true then
              { s.chans[i] with mute := ⟨-960, -960, 0, 0⟩ }
            else if linkMuted s.ingress s.links i = true ∧ linkMuted table s.links i = false ∧ s.chans[i].opMute = false then
              { s.chans[i] with mute := ⟨s.chans[i].mute.cur, 0, 960, 0⟩ }
            else s.chans[i] }.respond 0x83#8 tag [0x00#8, 1#8]))

/-- R114, R115, R126, R165, R172: an EGRESS record for a slot beyond 127 is refused with RANGE, one for a slot that is
crossfading with BUSY whatever else it holds, and one for another slot with a kind, index, replay channel or class half out of
range with RANGE. Otherwise it is written, the upper half of its class octet ignored: a PUNCH slot in LIVE stays LIVE at the
length of its class, and any other becomes a PUNCH slot in REPLAY at 0. -/
def Obligations.WriteEgressRecord : Prop :=
  ∀ s : State, s.ready →
    (∀ tag idx kind index rep clsOctet : Octet, 127 < idx.toNat →
      exec (.writeTable tag [5#8, idx, kind, index, rep, clsOctet]) s = .next (s.respond 0x83#8 tag [0x03#8, 0#8])) ∧
    ∀ (tag kind index rep clsOctet : Octet) (t : Fin 128),
      let command := Instr.writeTable tag [5#8, BitVec.ofNat 8 t.val, kind, index, rep, clsOctet]
      let cls := clsOctet.toNat % 16
      (s.egress[t].crossfades → exec command s = .next (s.respond 0x83#8 tag [0x02#8, 0#8])) ∧
      (¬s.egress[t].crossfades → slotRefused kind.toNat index.toNat rep.toNat cls →
        exec command s = .next (s.respond 0x83#8 tag [0x03#8, 0#8])) ∧
      (¬s.egress[t].crossfades → ∀ slot : Slot, slotMade s.egress[t] kind.toNat index.toNat rep.toNat cls slot →
        exec command s = .next ({ s with egress := s.egress.set t slot }.respond 0x83#8 tag [0x00#8, 1#8]))

/-- R33, R42, R162, R165: WRITE_TABLE of a space and of one or more whole records of it. A space beyond 7 is answered RANGE with
count 0. The records are written in order to successive indexes, each checked by its owner against the space as those before it
left it (`states j` is the engine when j records are written); the first refused stops the command with its status, and those
before it stay written. Then, for the n records written, ACCEPT classifies the links of the written classes again (in the order
A to D: log entry 9) and INGRESS evaluates every channel's link mute, and the response carries the status and the count. -/
def Obligations.WriteTableStopsAtFirstRefusal : Prop :=
  ∀ (s : State) (tag first : Octet), s.ready →
    (∀ (sp : Octet) (rest : List Octet), 7 < sp.toNat →
      exec (.writeTable tag (sp :: first :: rest)) s = .next (s.respond 0x83#8 tag [0x03#8, 0#8])) ∧
    ∀ (space : Fin 8) (recs : List (List Octet)) (states : Nat → State) (n : Nat), recs ≠ [] → recs.flatten.length ≤ 56 →
      (∀ o ∈ recs, o.length = [5, 5, 3, 3, 4, 4, 2, 5].getD space.val 0) → n ≤ recs.length → states 0 = s →
      (∀ j, j < n → (states j).writeRecord space (first.toNat + j) (recs.getD j []) = .ok (states (j + 1))) →
      let w := states n
      let classes := (List.range n).map fun j => j + first.toNat
      let ended :=
        if space = 3 then
          (((w.reclassify classes .a).reclassify classes .b).reclassify classes .c).reclassify classes .d
        else if space = 4 then
          { w with
            chans := Vector.ofFn fun i =>
              if linkMuted s.ingress s.links i = false ∧ linkMuted w.ingress w.links i = true then
                { w.chans[i] with mute := ⟨-960, -960, 0, 0⟩ }
              else if linkMuted s.ingress s.links i = true ∧ linkMuted w.ingress w.links i = false ∧
                  w.chans[i].opMute = false then
                { w.chans[i] with mute := ⟨w.chans[i].mute.cur, 0, 960, 0⟩ }
              else w.chans[i] }
        else w
      let command := Instr.writeTable tag (BitVec.ofNat 8 space.val :: first :: recs.flatten)
      (n = recs.length → exec command s = .next (ended.respond 0x83#8 tag [0x00#8, BitVec.ofNat 8 n])) ∧
      (∀ e, n < recs.length → w.writeRecord space (first.toNat + n) (recs.getD n []) = .error e →
        (e = .range ∨ e = .busy ∨ e = .tier ∨ e = .overlap) ∧
        exec command s = .next (ended.respond 0x83#8 tag
          [match e with | .busy => 0x02#8 | .range => 0x03#8 | .tier => 0x04#8 | _ => 0x05#8, BitVec.ofNat 8 n]))

/-- R44, R45, R47, R48, R49, R51, R66, R67, R68, R84, R115, R126, R166, R172: WRITE_FIELD writes the one field of a SOURCE, BUS,
GROUP or EGRESS record. A code, clamped, restarts its ramp over the class the record stores; a class leaves the ramp alone; a
change of a mute moves its component over 480 frames; a new tier is refused as a whole record would be; an EGRESS slot is
written as its record with that field replaced would be (of a class value the upper half ignored: log entry 14), or refused
with BUSY while it crossfades. A mute ramp that stands at −960 is log entry 23's. -/
def Obligations.WriteFieldOfRecord : Prop :=
  ∀ (s : State) (tag hi lo : Octet), s.ready →
    let v := (hi ++ lo : BitVec 16).toInt
    let code := clampInt (-960) 96 v
    let field := fun (space idx f : Nat) =>
      exec (.writeField tag [BitVec.ofNat 8 space, BitVec.ofNat 8 idx, BitVec.ofNat 8 f, hi, lo]) s
    let done := fun t : State => Host.Outcome.next (φ := Fault) (ρ := Refusal) (t.respond 0x84#8 tag [0x00#8])
    let refused := fun status : Octet => Host.Outcome.next (φ := Fault) (ρ := Refusal) (s.respond 0x84#8 tag [status])
    let restart := fun (r : Ramp) (cls : Fin 8) =>
      if rampLen cls = 0 then (⟨code, code, 0, 0⟩ : Ramp) else ⟨r.cur, code, rampLen cls, 0⟩
    let chan := fun (i : Fin 192) (c : Chan) => done { s with chans := s.chans.set i c }
    let bus := fun (b : Fin 64) (x : Bus) => done { s with buses := s.buses.set b x }
    let on := decide (v = 1)
    (∀ i : Fin 192, field 0 i.val 0 = chan i { s.chans[i] with trim := restart s.chans[i].trim s.chans[i].cls }) ∧
    (∀ i : Fin 192, v = 255 → field 0 i.val 1 = chan i { s.chans[i] with group := none }) ∧
    (∀ (i : Fin 192) (g : Fin 32), v = g.val → field 0 i.val 1 = chan i { s.chans[i] with group := some g }) ∧
    (∀ i : Fin 192, v = 0 ∨ v = 1 →
      field 0 i.val 2 = chan i { s.chans[i] with polarity := if v = 1 then .inverted else .normal } ∧
      field 0 i.val 3 = chan i { s.chans[i] with
        opMute := on
        mute := if s.chans[i].opMute = on ∨ linkMuted s.ingress s.links i = true then s.chans[i].mute
          else ⟨s.chans[i].mute.cur, if on then -960 else 0, 480, 0⟩ }) ∧
    (∀ b : Fin 64, field 1 b.val 1 = bus b { s.buses[b] with level := restart s.buses[b].level s.buses[b].cls }) ∧
    (∀ b : Fin 64, v = 0 ∨ v = 1 → field 1 b.val 2 = bus b { s.buses[b] with
      muted := on
      muteRamp := if s.buses[b].muted = on then s.buses[b].muteRamp
        else ⟨s.buses[b].muteRamp.cur, if on then -960 else 0, 480, 0⟩ }) ∧
    (∀ (b : Fin 64) (t : Fin 4), v = t.val →
      (s.tierFits b t = true → field 1 b.val 0 = bus b { s.buses[b] with tier := t }) ∧
      (s.tierFits b t = false → field 1 b.val 0 = refused 0x04#8)) ∧
    (∀ g : Fin 32, field 2 g.val 0 = done { s with
      groups := s.groups.set g { s.groups[g] with trim := restart s.groups[g].trim s.groups[g].cls } }) ∧
    (∀ n : Fin 8, v = n.val →
      (∀ i : Fin 192, field 0 i.val 4 = chan i { s.chans[i] with cls := n }) ∧
      (∀ b : Fin 64, field 1 b.val 3 = bus b { s.buses[b] with cls := n }) ∧
      (∀ g : Fin 32, field 2 g.val 1 = done { s with groups := s.groups.set g { s.groups[g] with cls := n } })) ∧
    (∀ (t : Fin 128) (f : Nat), s.egress[t].crossfades → f < 256 → field 5 t.val f = refused 0x02#8) ∧
    (∀ (t : Fin 128) (f : Fin 4) (n : Nat), ¬s.egress[t].crossfades → v = n → n ≤ 255 →
      let old := s.egress[t]
      let kind := if f = 0 then n else match old.use with | .off => 0 | .bus _ => 1 | .direct _ => 2 | .punch _ _ _ _ => 3
      let index := if f = 1 then n else
        match old.use with | .off => 0 | .bus b => b.val | .direct i => i.val | .punch b _ _ _ => b.val
      let rep := if f = 2 then n else match old.use with | .punch _ p _ _ => p.val | _ => 0
      let cls := if f = 3 then n % 16 else old.cls.val
      (slotRefused kind index rep cls → field 5 t.val f.val = refused 0x03#8) ∧
      (∀ slot : Slot, slotMade old kind index rep cls slot →
        field 5 t.val f.val = done { s with egress := s.egress.set t slot }))

/-- R44, R48, R66, R115, R166, R172: WRITE_FIELD of ACCEPT, INGRESS, NOTICE or CONTROL is answered BADKIND, and one of a space
beyond 7, of an index or a field the space does not have, or of a value outside the encodings of the field's octet, RANGE;
nothing is written. A value no octet holds is among these in every field that is not a code (log entry 15), in EGRESS when the
slot does not crossfade. -/
def Obligations.WriteFieldRefused : Prop :=
  ∀ (s : State) (tag sp idx f hi lo : Octet), s.ready →
    let v := (hi ++ lo : BitVec 16).toInt
    let beyond := fun n : Int => v < 0 ∨ n < v
    let refused := fun status : Octet =>
      exec (.writeField tag [sp, idx, f, hi, lo]) s = .next (s.respond 0x84#8 tag [status])
    ((sp.toNat = 3 ∨ sp.toNat = 4 ∨ sp.toNat = 6 ∨ sp.toNat = 7) → refused 0x07#8) ∧
    (7 < sp.toNat → refused 0x03#8) ∧
    (sp.toNat = 0 →
      (191 < idx.toNat ∨ 4 < f.toNat ∨ (f.toNat = 1 ∧ beyond 31 ∧ v ≠ 255) ∨ (f.toNat = 2 ∧ beyond 1) ∨
        (f.toNat = 3 ∧ beyond 1) ∨ (f.toNat = 4 ∧ beyond 7)) → refused 0x03#8) ∧
    (sp.toNat = 1 →
      (63 < idx.toNat ∨ 3 < f.toNat ∨ (f.toNat = 0 ∧ beyond 3) ∨ (f.toNat = 2 ∧ beyond 1) ∨ (f.toNat = 3 ∧ beyond 7)) →
      refused 0x03#8) ∧
    (sp.toNat = 2 → (31 < idx.toNat ∨ 1 < f.toNat ∨ (f.toNat = 1 ∧ beyond 7)) → refused 0x03#8) ∧
    (sp.toNat = 5 → 127 < idx.toNat → refused 0x03#8) ∧
    (sp.toNat = 5 → ∀ t : Fin 128, idx.toNat = t.val → ¬s.egress[t].crossfades → (3 < f.toNat ∨ beyond 255) →
      refused 0x03#8)

/-! ### The matrix -/

/-- R86, R87: SET_WINDOW sets the seven fields and places the counter at the start corner, or is refused with RANGE. -/
def Obligations.SetWindowPlacesCounter : Prop :=
  ∀ (s : State) (tag r0 r1 c0 c1 o rd cd : Octet), s.ready →
    let command := Instr.setWindow tag [r0, r1, c0, c1, o, rd, cd]
    ((r1.toNat < r0.toNat ∨ 63 < c1.toNat ∨ c1.toNat < c0.toNat ∨ 1 < o.toNat ∨ 1 < rd.toNat ∨ 1 < cd.toNat) →
      exec command s = .next (s.respond 0x85#8 tag [0x03#8])) ∧
    ∀ (a0 a1 : Fin 256) (b0 b1 : Fin 64), r0.toNat = a0.val → r1.toNat = a1.val → c0.toNat = b0.val → c1.toNat = b1.val →
      a0 ≤ a1 → b0 ≤ b1 → o.toNat ≤ 1 → rd.toNat ≤ 1 → cd.toNat ≤ 1 →
      exec command s = .next ({ s with
        window :=
          { firstRow := a0, lastRow := a1, firstCol := b0, lastCol := b1
            order := if o.toNat = 0 then .rows else .columns
            rowDir := if rd.toNat = 0 then .up else .down
            colDir := if cd.toNat = 0 then .up else .down
            row := if rd.toNat = 0 then a0 else a1
            col := if cd.toNat = 0 then b0 else b1 } }.respond 0x85#8 tag [0x00#8])

/-- R87, R88: the walk of the window counter from the start corner. After i cells it stands at cell i of the walk, modulo the
number of cells: in ROWS the column advances first, in COLUMNS the row; a row or column index counts up from the first or down
from the last. The window's fields do not change. -/
def Obligations.WindowWalk : Prop :=
  ∀ (w : MatrixWindow) (i : Nat), w.firstRow ≤ w.lastRow → w.firstCol ≤ w.lastCol →
    w.row = (if w.rowDir = .up then w.firstRow else w.lastRow) →
    w.col = (if w.colDir = .up then w.firstCol else w.lastCol) →
    let rows := w.lastRow.val - w.firstRow.val + 1
    let cols := w.lastCol.val - w.firstCol.val + 1
    let j := i % (rows * cols)
    let a := if w.order = .rows then j / cols else j % rows
    let b := if w.order = .rows then j % cols else j / rows
    let v := Nat.repeat MatrixWindow.next i w
    v.row.val = (if w.rowDir = .up then w.firstRow.val + a else w.lastRow.val - a) ∧
    v.col.val = (if w.colDir = .up then w.firstCol.val + b else w.lastCol.val - b) ∧
    v = { w with row := v.row, col := v.col }

/-- R90, R91, R92: WRITE_GAINS of one code. BUSY while a sweep is in flight and RANGE for a class beyond 7 take no cell. KEEP
moves the counter only; a code other than off at an illegal crosspoint (R82) is skipped and counted; any other is given to the
crosspoint under the pool rules. -/
def Obligations.WriteGainsOneCell : Prop :=
  ∀ (s : State) (tag cls hi lo : Octet), s.ready →
    let command := Instr.writeGains tag [cls, hi, lo]
    let code := clampInt (-960) 96 (hi ++ lo : BitVec 16).toInt
    let illegal := ∃ b : Fin 64, s.window.row.val = 192 + b.val ∧ s.buses[s.window.col].tier ≤ s.buses[b].tier
    (∀ c left, s.sweep = .inFlight c left → exec command s = .next (s.respond 0x86#8 tag [0x02#8, 0#8])) ∧
    (s.sweep = .idle → 7 < cls.toNat → exec command s = .next (s.respond 0x86#8 tag [0x03#8, 0#8])) ∧
    ∀ n : Fin 8, s.sweep = .idle → cls.toNat = n.val →
      ((hi ++ lo : BitVec 16).toInt = -32768 →
        exec command s = .next ({ s with window := s.window.next }.respond 0x86#8 tag [0x00#8, 0#8])) ∧
      ((hi ++ lo : BitVec 16).toInt ≠ -32768 → illegal → code ≠ -960 →
        exec command s = .next ({ s with window := s.window.next }.respond 0x86#8 tag [0x04#8, 1#8])) ∧
      ((hi ++ lo : BitVec 16).toInt ≠ -32768 → (¬illegal ∨ code = -960) →
        exec command s = .next ({ s.writeXp s.window.row s.window.col code n with window := s.window.next }.respond
          0x86#8 tag [0x00#8, 0#8]))

/-- R89, R91, R92: a WRITE_GAINS of 1..26 codes takes that many cells of the walk, one after another: KEEP leaves a cell, a
code other than off at an illegal crosspoint is skipped and counted, and any other is given to the crosspoint at the counter
under the pool rules, as the cells before it left the pool. The response is OK, or TIER with the number of cells skipped.
R90: BUSY while a sweep is in flight, whatever the class, and otherwise RANGE for a class beyond 7, take no cell and leave the
counter. -/
def Obligations.WriteGainsTakesCellsInOrder : Prop :=
  ∀ (s : State) (tag : Octet) (codes : List (BitVec 16)), s.ready → 1 ≤ codes.length → codes.length ≤ 26 →
    let command := fun cls : Octet => exec (.writeGains tag (cls :: codes.flatMap octets16)) s
    (∀ (cls : Octet) (swept : Fin 8) (left : Nat), s.sweep = .inFlight swept left →
      command cls = .next (s.respond 0x86#8 tag [0x02#8, 0#8])) ∧
    (∀ cls : Octet, s.sweep = .idle → 7 < cls.toNat → command cls = .next (s.respond 0x86#8 tag [0x03#8, 0#8])) ∧
    ∀ n : Fin 8, s.sweep = .idle →
    let counter := fun i => Nat.repeat MatrixWindow.next i s.window
    let value := fun i => (codes.getD i 0).toInt
    let code := fun i => clampInt (-960) 96 (value i)
    let skips := fun i => decide (value i ≠ -32768 ∧ code i ≠ -960 ∧
      ∃ b : Fin 64, (counter i).row.val = 192 + b.val ∧ s.buses[(counter i).col].tier ≤ s.buses[b].tier)
    let cell := fun (v : State) (i : Nat) =>
      if value i = -32768 ∨ skips i = true then v else v.writeXp (counter i).row (counter i).col (code i) n
    let written := (List.range codes.length).foldl cell s
    let skipped := (List.range codes.length).countP skips
    command (BitVec.ofNat 8 n.val) =
      .next ({ written with window := counter codes.length }.respond 0x86#8 tag
        [if skipped = 0 then 0x00#8 else 0x04#8, BitVec.ofNat 8 skipped])

/-- R89, R93: READ_GAINS of 1..14 cells returns each cell's current and target code in walk order and moves the counter; a count
outside 1..14 is answered RANGE and moves nothing. -/
def Obligations.ReadGainsReturnsPairs : Prop :=
  ∀ (s : State) (tag n : Octet), s.ready →
    ((n.toNat = 0 ∨ 14 < n.toNat) → exec (.readGains tag [n]) s = .next (s.respond 0x87#8 tag [0x03#8])) ∧
    (1 ≤ n.toNat → n.toNat ≤ 14 → exec (.readGains tag [n]) s =
      .next ({ s with window := Nat.repeat MatrixWindow.next n.toNat s.window }.respond 0x87#8 tag
        (0x00#8 :: (List.range n.toNat).flatMap fun i =>
          let w := Nat.repeat MatrixWindow.next i s.window
          octets16 (BitVec.ofInt 16 (s.matrix.cell w.row w.col).cur) ++
            octets16 (BitVec.ofInt 16 (s.matrix.cell w.row w.col).tgt))))

/-- R95: MATRIX_CLEAR is answered BUSY while a sweep is in flight, else RANGE for a class beyond 7, and otherwise starts a sweep
of all 16,384 crosspoints. -/
def Obligations.MatrixClearStartsSweep : Prop :=
  ∀ (s : State) (tag cls : Octet), s.ready →
    (∀ c left, s.sweep = .inFlight c left → exec (.matrixClear tag [cls]) s = .next (s.respond 0x88#8 tag [0x02#8])) ∧
    (s.sweep = .idle → 7 < cls.toNat → exec (.matrixClear tag [cls]) s = .next (s.respond 0x88#8 tag [0x03#8])) ∧
    (∀ n : Fin 8, s.sweep = .idle → cls.toNat = n.val →
      exec (.matrixClear tag [cls]) s = .next ({ s with sweep := .inFlight n 16384 }.respond 0x88#8 tag [0x00#8]))

/-- R72, R73, R74, R76, R80: a crosspoint that receives a target. With class 0 it steps; an entry it held is freed and handed
out, a place on the pending list is left. With a class of 1..7: an entry begins its ramp again; a pending crosspoint keeps its
place with the new class; a crosspoint at the target stays; one with a free entry takes it; and one without joins the tail,
which is counted, and then sets POOL_WAIT when the list was empty (order: log entry 9). No other crosspoint changes. -/
def Obligations.PoolRules : Prop :=
  ∀ (s : State) (r : Fin 256) (c : Fin 64) (t : Int) (n : Fin 8),
    let m := s.matrix
    let x := m.cell r c
    let u := s.writeXp r c t n
    let m' := u.matrix
    let entered := some (⟨r, c, ⟨x.cur, t, rampLen n, 0⟩⟩ : PoolEntry)
    let joins := n ≠ 0 ∧ m.entry r c = none ∧ x.pend = false ∧ x.cur ≠ t ∧ 1024 ≤ m.pool.length
    (n = 0 → m.entry r c ≠ none → MatrixOk m → m'.cell r c = ⟨t, t, false⟩ ∧ HandedOut m m' r c) ∧
    (n = 0 → m.entry r c = none →
      m'.cell r c = ⟨t, t, false⟩ ∧ m'.pool = m.pool ∧
        m'.waiting = m.waiting.filter fun w => decide ¬(w.row = r ∧ w.col = c)) ∧
    (n ≠ 0 → m.entry r c ≠ none →
      m'.cell r c = { x with tgt := t } ∧ m'.entry r c = entered ∧ m'.waiting = m.waiting) ∧
    (n ≠ 0 → m.entry r c = none → x.pend = true →
      m'.cell r c = { x with tgt := t } ∧ m'.pool = m.pool ∧
        m'.waiting = m.waiting.map fun w => if w.row = r ∧ w.col = c then { w with cls := n } else w) ∧
    (n ≠ 0 → m.entry r c = none → x.pend = false → x.cur = t →
      m'.cell r c = { x with tgt := t } ∧ m'.pool = m.pool ∧ m'.waiting = m.waiting) ∧
    (n ≠ 0 → m.entry r c = none → x.pend = false → x.cur ≠ t → m.pool.length < 1024 →
      m'.cell r c = { x with tgt := t } ∧ m'.entry r c = entered ∧ m'.waiting = m.waiting) ∧
    (joins → m'.cell r c = ⟨x.cur, t, true⟩ ∧ m'.pool = m.pool ∧ m'.waiting = m.waiting ++ [⟨r, c, n⟩] ∧
      u.report = if m.waiting = [] then (s.report.addCount 19).setItem .poolWait else s.report.addCount 19) ∧
    (¬joins → u.report = s.report) ∧ u = { s with matrix := m', report := u.report } ∧
    ((n ≠ 0 ∨ m.entry r c = none) → ∀ (r' : Fin 256) (c' : Fin 64), ¬(r' = r ∧ c' = c) →
      m'.cell r' c' = m.cell r' c' ∧ m'.entry r' c' = m.entry r' c')

/-- R64, R65, R75, R76: the entry of a crosspoint that comes to its last step is freed with the crosspoint at its target, and is
handed to the oldest waiting crosspoint whose current code differs from its target, those before it leaving the list without
one; with none such the list is empty and the entry stays free; every other entry stays. An entry not at its last step makes
RAMP_COMPLETION no event (model's choice, log entry 6). In an engine frame with no sweep every entry in use after the automation
application makes one step, those that complete are freed and handed out one after another, and an entry handed out in the
advance makes no step (one handed out by an applied event's step does: log entry 26). -/
def Obligations.RampCompletionHandsEntryOut : Prop :=
  ∀ s : State,
    (MatrixOk s.matrix → ∀ (r : Fin 256) (c : Fin 64),
      let m := s.matrix
      (∀ e, m.entry r c = some e → e.ramp.len ≤ e.ramp.k + 1 →
        ∃ m' : Matrix, exec (.rampCompletion r c) s = .next { s with matrix := m' } ∧
          m'.cell r c = ⟨e.ramp.target, e.ramp.target, false⟩ ∧ HandedOut m m' r c) ∧
      ((m.entry r c = none ∨ ∃ e, m.entry r c = some e ∧ e.ramp.k + 1 < e.ramp.len) →
        exec (.rampCompletion r c) s = .next s)) ∧
    ∀ src : FrameSource, s.sweep = .idle →
      let m := (s.frameEvents src).matrix
      let m' := (s.engineFrame src).matrix
      let finished := m.pool.countP fun e => decide (e.ramp.len ≤ e.ramp.k + 1)
      MatrixOk m →
      (∀ e ∈ m.pool, e.ramp.k + 1 < e.ramp.len →
        let ramp := { e.ramp with k := e.ramp.k + 1 }
        m'.entry e.row e.col = some { e with ramp := ramp } ∧ m'.cell e.row e.col = ⟨ramp.cur, ramp.target, false⟩) ∧
      (∀ e ∈ m.pool, e.ramp.len ≤ e.ramp.k + 1 →
        m'.entry e.row e.col = none ∧ m'.cell e.row e.col = ⟨e.ramp.target, e.ramp.target, false⟩) ∧
      (∀ (r : Fin 256) (c : Fin 64), m.entry r c = none →
        (m'.cell r c).cur = (m.cell r c).cur ∧ (m'.cell r c).tgt = (m.cell r c).tgt) ∧
      ((∀ w ∈ m.waiting, (m.cell w.row w.col).cur ≠ (m.cell w.row w.col).tgt) →
        m'.waiting = m.waiting.drop finished ∧
        ∀ w ∈ m.waiting.take finished, m'.entry w.row w.col =
          some ⟨w.row, w.col, ⟨(m.cell w.row w.col).cur, (m.cell w.row w.col).tgt, rampLen w.cls, 0⟩⟩)

/-- R96, R97: an engine frame with a sweep in flight ends with the visits of the next 128 crosspoints in row-major order, each
given target −960 with the sweep's class under the pool rules, and the visits that reach row 255 complete the sweep: it goes
IDLE and SWEEP_DONE is set. Of those visited each has target −960, and with class 0 stands off without an entry; the others
keep their codes. SWEEP_COMPLETION is those last visits; a sweep with more visits left, or idle, makes it no event (model's
choice, log entry 6). -/
def Obligations.SweepCompletionEndsSweep : Prop :=
  ∀ (s : State),
    (∀ n left, s.sweep = .inFlight n left → left ≤ 128 →
      exec .sweepCompletion s =
        .next { s.visit n (16384 - left) with
          sweep := .idle, report := (s.visit n (16384 - left)).report.setItem .sweepDone }) ∧
    ((s.sweep = .idle ∨ ∃ n left, s.sweep = .inFlight n left ∧ 128 < left) → exec .sweepCompletion s = .next s) ∧
    (∀ src : FrameSource,
      let v := (s.frameMoves src).computeFrame src
      (s.sweep = .idle → s.engineFrame src = v) ∧
      ∀ n left, s.sweep = .inFlight n left →
        let w := v.visit n (16384 - left)
        s.engineFrame src =
          if left ≤ 128 then { w with sweep := .idle, report := w.report.setItem .sweepDone }
          else { w with sweep := .inFlight n (left - 128) }) ∧
    ∀ first : Nat, first + 128 ≤ 16384 → ∀ n : Fin 8,
      s.visit n first = (List.range 128).foldl (fun v j =>
        v.writeXp (Fin.ofNat 256 ((first + j) / 64)) (Fin.ofNat 64 ((first + j) % 64)) (-960) n) s ∧
      (MatrixOk s.matrix → ∀ (r : Fin 256) (c : Fin 64),
        let x := (s.visit n first).matrix.cell r c
        (first ≤ xpKey r c → xpKey r c < first + 128 →
          x.tgt = -960 ∧ (n = 0 → x = ⟨-960, -960, false⟩ ∧ (s.visit n first).matrix.entry r c = none)) ∧
        (xpKey r c < first ∨ first + 128 ≤ xpKey r c →
          x.cur = (s.matrix.cell r c).cur ∧ x.tgt = (s.matrix.cell r c).tgt))

/-! ### Automation, punches, flags, counters, reset -/

/-- R136, R138, R171: the ten octets of an event record spell its due position and its move, the code clamped; a record of
another kind, or with an index, a class or an on or off setting out of its kind's range, spells none. -/
def Obligations.EventRecordLayout : Prop :=
  ∀ (due : Position) (i2 : Octet) (x : BitVec 16) (n : Fin 8) (on : Bool),
    let code := clampInt (-960) 96 x.toInt
    let record := fun (kind i1 : Nat) (second : Octet) (last : Nat) =>
      readEvent (octets32 due ++ [BitVec.ofNat 8 kind, BitVec.ofNat 8 i1, second] ++ octets16 x ++ [BitVec.ofNat 8 last])
    (∀ (r : Fin 256) (c : Fin 64), record 1 r.val (BitVec.ofNat 8 c.val) n.val = some ⟨due, .xpTarget r c code n⟩) ∧
    (∀ i : Fin 192, record 2 i.val i2 n.val = some ⟨due, .srcTrim i code n⟩) ∧
    (∀ g : Fin 32, record 3 g.val i2 n.val = some ⟨due, .groupTrim g code n⟩) ∧
    (∀ b : Fin 64, record 4 b.val i2 n.val = some ⟨due, .busLevel b code n⟩) ∧
    (∀ i : Fin 192, record 5 i.val i2 (if on then 1 else 0) = some ⟨due, .srcMute i on⟩) ∧
    (∀ b : Fin 64, record 6 b.val i2 (if on then 1 else 0) = some ⟨due, .busMute b on⟩) ∧
    (∀ t : Fin 128, record 7 t.val i2 n.val = some ⟨due, .punchIn t⟩) ∧
    (∀ t : Fin 128, record 8 t.val i2 n.val = some ⟨due, .punchOut t⟩) ∧
    (∀ kind i1 last : Nat, kind < 256 → i1 < 256 → last < 256 →
      ((kind = 0 ∨ 8 < kind) ∨ (kind = 1 ∧ 63 < i2.toNat) ∨ (kind = 2 ∧ 191 < i1) ∨ (kind = 3 ∧ 31 < i1) ∨
        (kind = 4 ∧ 63 < i1) ∨ (kind = 5 ∧ 191 < i1) ∨ (kind = 6 ∧ 63 < i1) ∨ (7 ≤ kind ∧ 127 < i1) ∨
        (1 ≤ kind ∧ kind ≤ 4 ∧ 7 < last) ∨ (5 ≤ kind ∧ kind ≤ 6 ∧ 1 < last)) →
      record kind i1 i2 last = none)

/-- R137 to R140: QUEUE_EVENTS of one to five events, taken in order (`states j` is the engine when j are taken). A late event
is applied at once and counted in LATE (its move first, then the count, then QUEUE/LATE: order of log entry 9); one not late
takes its place behind every event due at or before it. The command stops at a record no kind reads, with RANGE, and at an
event not late that finds 512 in the queue, with QFULL if none was taken and PARTIAL otherwise; the response carries the
number taken. -/
def Obligations.QueueOneEvent : Prop :=
  ∀ (s : State) (tag : Octet) (recs : List (List Octet)) (states : Nat → State) (n : Nat), s.ready → QueueOk s →
    1 ≤ recs.length → recs.length ≤ 5 → (∀ o ∈ recs, o.length = 10) → n ≤ recs.length → states 0 = s →
    (∀ j, j < n → ∃ e, readEvent (recs.getD j []) = some e ∧ (states j).EventTaken e (states (j + 1))) →
    let w := states n
    let answered := fun status : Octet =>
      exec (.queueEvents tag recs.flatten) s = .next (w.respond 0x89#8 tag [status, BitVec.ofNat 8 n])
    (n = recs.length → answered 0x00#8) ∧
    (n < recs.length → readEvent (recs.getD n []) = none → answered 0x03#8) ∧
    (∀ e, n < recs.length → readEvent (recs.getD n []) = some e → ¬w.late e → w.queue.length = 512 →
      answered (if n = 0 then 0x06#8 else 0x01#8))

/-- R51, R55, R68, R69, R94, R122, R123, R125, R128: what an applied event does, at an engine frame or late. A trim or level
restarts its ramp over the event's class, the record's class kept; a mute moves over 480 frames if it changes (at −960 a ramp
that stands still: model's choice, log entry 23), a link-muted channel's not; XP_TARGET gives the crosspoint its target under
the pool rules, or is discarded at an illegal crosspoint with a code other than off; a punch is taken by a PUNCH slot as its
state and length say, an arrival at once setting PUNCH/s, and at a slot of another kind is discarded. A discarded event is
counted in REFUSED_EVENTS and then sets QUEUE/REFUSED (that order is log entry 9's). -/
def Obligations.AppliedEventMoves : Prop :=
  ∀ s : State,
    let restart := fun (r : Ramp) (code : Int) (n : Fin 8) =>
      if rampLen n = 0 then (⟨code, code, 0, 0⟩ : Ramp) else ⟨r.cur, code, rampLen n, 0⟩
    let discarded := { s with report := (s.report.addCount 18).setItem .refused }
    (∀ (i : Fin 192) (code : Int) (n : Fin 8), s.applyMove (.srcTrim i code n) =
      { s with chans := s.chans.set i { s.chans[i] with trim := restart s.chans[i].trim code n } }) ∧
    (∀ (g : Fin 32) (code : Int) (n : Fin 8), s.applyMove (.groupTrim g code n) =
      { s with groups := s.groups.set g { s.groups[g] with trim := restart s.groups[g].trim code n } }) ∧
    (∀ (b : Fin 64) (code : Int) (n : Fin 8), s.applyMove (.busLevel b code n) =
      { s with buses := s.buses.set b { s.buses[b] with level := restart s.buses[b].level code n } }) ∧
    (∀ (i : Fin 192) (on : Bool), s.applyMove (.srcMute i on) =
      { s with
        chans := s.chans.set i
          { s.chans[i] with
            opMute := on
            mute := if s.chans[i].opMute = on ∨ linkMuted s.ingress s.links i = true then s.chans[i].mute
              else ⟨s.chans[i].mute.cur, if on then -960 else 0, 480, 0⟩ } }) ∧
    (∀ (b : Fin 64) (on : Bool), s.applyMove (.busMute b on) =
      { s with
        buses := s.buses.set b
          { s.buses[b] with
            muted := on
            muteRamp := if s.buses[b].muted = on then s.buses[b].muteRamp
              else ⟨s.buses[b].muteRamp.cur, if on then -960 else 0, 480, 0⟩ } }) ∧
    (∀ (r : Fin 256) (c : Fin 64) (code : Int) (n : Fin 8),
      let illegal := ∃ b : Fin 64, r.val = 192 + b.val ∧ s.buses[c].tier ≤ s.buses[b].tier
      (illegal → code ≠ -960 → s.applyMove (.xpTarget r c code n) = discarded) ∧
      ((¬illegal ∨ code = -960) → s.applyMove (.xpTarget r c code n) = s.writeXp r c code n)) ∧
    (∀ t : Fin 128, (∀ b p st k, s.egress[t].use ≠ .punch b p st k) →
      s.applyMove (.punchIn t) = discarded ∧ s.applyMove (.punchOut t) = discarded) ∧
    (∀ (t : Fin 128) (b : Fin 64) (p : Fin 192) (state : PunchState) (k : Nat), s.egress[t].use = .punch b p state k →
      let turned := fun now : PunchState => { s with egress := s.egress.set t { s.egress[t] with use := .punch b p now k } }
      let arrived := fun now : PunchState => { turned now with report := s.report.setItem (.punch t) }
      let instant := rampLen s.egress[t].cls = 0
      s.applyMove (.punchIn t) = (match state with
        | .replay => if instant then arrived .live else turned .toLive
        | .toReplay => turned .toLive
        | .toLive => s
        | .live => s) ∧
      s.applyMove (.punchOut t) = (match state with
        | .live => if instant then arrived .replay else turned .toReplay
        | .toLive => turned .toReplay
        | .toReplay => s
        | .replay => s))

/-- R148, R149: FLUSH_QUEUE empties the queue, counts each event in FLUSHED, and then sets QUEUE/LOW when the count stood
above the low mark (order: log entry 9). -/
def Obligations.FlushQueueEmptiesQueue : Prop :=
  ∀ (s : State) (tag : Octet), s.ready →
    let counted := s.report.addCounts 17 s.queue.length
    exec (.flushQueue tag []) s =
      .next ({ s with
        queue := []
        report := if s.report.control.lowMark < s.queue.length then counted.setItem .low else counted }.respond
        0x8A#8 tag [0x00#8])

/-- R122, R123, R125, R127: PUNCH of a run of slots gives each PUNCH slot of the run, in ascending order, the request: IN turns
REPLAY and TO_REPLAY to TO_LIVE, OUT turns LIVE and TO_LIVE to TO_REPLAY, the position kept, and any other state stays; a slot
of length 0 goes from REPLAY to LIVE or back at once and sets its item. The response counts the PUNCH slots reached. A run
outside 0..127 or a direction beyond 1 is answered RANGE. -/
def Obligations.PunchRequestsRun : Prop :=
  ∀ (s : State) (tag first count dir : Octet), s.ready →
    let command := Instr.punch tag [first, count, dir]
    let inRun := fun t : Fin 128 => first.toNat ≤ t.val ∧ t.val < first.toNat + count.toNat
    let into := dir.toNat = 1
    ((127 < first.toNat ∨ count.toNat = 0 ∨ 128 < first.toNat + count.toNat ∨ 1 < dir.toNat) →
      exec command s = .next (s.respond 0x8B#8 tag [0x03#8, 0#8])) ∧
    (1 ≤ count.toNat → first.toNat + count.toNat ≤ 128 → dir.toNat ≤ 1 →
      let instant := fun t : Fin 128 => rampLen s.egress[t].cls = 0
      let use : Fin 128 → SlotUse := fun t => s.egress[t].use
      let arrives : Fin 128 → Bool := fun t => match use t with
        | .punch _ _ .replay _ => decide (into ∧ instant t)
        | .punch _ _ .live _ => decide (¬into ∧ instant t)
        | _ => false
      let reached := (List.finRange 128).countP fun t =>
        decide (inRun t) && (match use t with | .punch _ _ _ _ => true | _ => false)
      exec command s = .next ({ s with
        egress := Vector.ofFn fun t => if inRun t then
          { s.egress[t] with
            use := match use t with
              | .punch b p .replay k => .punch b p (if into then (if instant t then .live else .toLive) else .replay) k
              | .punch b p .toReplay k => .punch b p (if into then .toLive else .toReplay) k
              | .punch b p .live k => .punch b p (if into then .live else (if instant t then .replay else .toReplay)) k
              | .punch b p .toLive k => .punch b p (if into then .toLive else .toReplay) k
              | u => u }
          else s.egress[t]
        report := (List.finRange 128).foldl (fun (r : Report) (t : Fin 128) =>
          if inRun t ∧ arrives t = true then r.setItem (.punch t) else r) s.report }.respond 0x8B#8 tag
            [if reached = count.toNat then 0x00#8 else 0x01#8, BitVec.ofNat 8 reached]))

/-- R120, R124: at an engine frame, after the automation application, every crossfading slot makes one step, a slot that comes
to L or to 0 arrives in LIVE or REPLAY, and each arrival sets PUNCH/s (in ascending order of slot: log entry 9), which in a
class steered NONE stands at the frame's end. As a command of its own, PUNCH_ARRIVAL is that advance of one slot; of a slot
that would not arrive it is no event (model's choice, log entry 6). -/
def Obligations.PunchArrivalEndsCrossfade : Prop :=
  ∀ s : State,
    (PunchOk s → ∀ t : Fin 128,
      let arrived := fun use : SlotUse => exec (.punchArrival t) s =
        .next { s with
          egress := s.egress.set t { s.egress[t] with use := use }
          report := s.report.setItem (.punch t) }
      let len := rampLen s.egress[t].cls
      (∀ b p k, s.egress[t].use = .punch b p .toLive k → len ≤ k + 1 → arrived (.punch b p .live len)) ∧
      (∀ b p k, s.egress[t].use = .punch b p .toReplay k → k ≤ 1 → arrived (.punch b p .replay 0)) ∧
      ((∀ b p k, (s.egress[t].use = .punch b p .toLive k → k + 1 < len) ∧
          (s.egress[t].use = .punch b p .toReplay k → 1 < k)) →
        exec (.punchArrival t) s = .next s)) ∧
    ∀ src : FrameSource,
      let u := s.frameEvents src
      let v := s.engineFrame src
      let len := fun t : Fin 128 => rampLen u.egress[t].cls
      let use : Fin 128 → SlotUse := fun t => u.egress[t].use
      let arrives : Fin 128 → Bool := fun t => match use t with
        | .punch _ _ .toLive k => decide (k + 1 = len t ∨ k = len t)
        | .punch _ _ .toReplay k => decide (k ≤ 1)
        | _ => false
      (s.frameMoves src).report =
        (List.finRange 128).foldl (fun (r : Report) (t : Fin 128) => if arrives t = true then r.setItem (.punch t) else r) u.report ∧
      ∀ t : Fin 128,
        v.egress[t] = { u.egress[t] with
          use := match use t with
            | .punch b p .toLive k =>
              if arrives t = true then .punch b p .live (len t) else .punch b p .toLive (if k < len t then k + 1 else k)
            | .punch b p .toReplay k => if arrives t = true then .punch b p .replay 0 else .punch b p .toReplay (k - 1)
            | still => still } ∧
        (s.report.notices[(4 : Fin 8)].steer = .none →
          (v.report.items[(4 : Fin 8)].getLsbD t.val = true ↔
            u.report.items[(4 : Fin 8)].getLsbD t.val = true ∨ arrives t = true))

/-- R168, R171, R173, R180: READ_FLAGS returns the bitmaps of all eight classes as they stood, clears the items of ON_REPORT
classes whatever their steering, and removes the unreported count, the timer and the due mark. -/
def Obligations.ReadFlagsReturnsBitmaps : Prop :=
  ∀ (s : State) (tag : Octet), s.ready →
    let size := fun c : Fin 8 => [1, 8, 1, 1, 16, 1, 11, 1].getD c.val 0
    exec (.readFlags tag []) s =
      .next ({ s with
        report := { s.report with
          items := Vector.ofFn fun c => if s.report.notices[c].mode = ClearMode.onReport then 0#128 else s.report.items[c]
          unreported := 0
          timer := none
          due := false } }.respond 0x8C#8 tag
        (0x00#8 :: (List.finRange 8).flatMap fun c =>
          (List.range (size c)).map fun j => (s.report.items[c] >>> (8 * j)).setWidth 8))

/-- R168, R173, R181, R182: CLEAR_FLAGS and TEST_AND_CLEAR clear the items of the class whose bits are set in the sixteen
octets, item i at bit i mod 8 of octet i div 8, and leave count, timer and due mark; TEST_AND_CLEAR returns the class and the
states of the named items before the command (R182; R186's last sentence says otherwise of one order: log entry
28). A class beyond 7 is answered RANGE. -/
def Obligations.ClearFlagsClearsNamedItems : Prop :=
  ∀ (s : State) (tag cls : Octet) (mask : List Octet), s.ready → mask.length = 16 →
    (7 < cls.toNat →
      exec (.clearFlags tag (cls :: mask)) s = .next (s.respond 0x8D#8 tag [0x03#8]) ∧
      exec (.testAndClear tag (cls :: mask)) s = .next (s.respond 0x8E#8 tag [0x03#8])) ∧
    (∀ c : Fin 8, cls.toNat = c.val →
      ∃ (left : Bitmap) (named : List Octet),
        (∀ i : Nat, i < 128 →
          left.getLsbD i = (s.report.items[c].getLsbD i && !(mask.getD (i / 8) 0#8).getLsbD (i % 8))) ∧
        named.length = 16 ∧
        (∀ i : Nat, i < 128 → (named.getD (i / 8) 0#8).getLsbD (i % 8) =
          (s.report.items[c].getLsbD i && (mask.getD (i / 8) 0#8).getLsbD (i % 8))) ∧
        let t := { s with report := { s.report with items := s.report.items.set c left } }
        exec (.clearFlags tag (cls :: mask)) s = .next (t.respond 0x8D#8 tag [0x00#8]) ∧
        exec (.testAndClear tag (cls :: mask)) s = .next (t.respond 0x8E#8 tag (0x00#8 :: cls :: named)))

/-- R168, R184: READ_COUNTERS returns count counters from the first in bank order and sets them to 0 when asked to clear; it is
answered RANGE for a count outside 1..28, a run beyond the bank or a clear option beyond 01h. -/
def Obligations.ReadCountersReturnsValues : Prop :=
  ∀ (s : State) (tag first count clear : Octet), s.ready →
    let command := Instr.readCounters tag [first, count, clear]
    ((count.toNat = 0 ∨ 28 < count.toNat ∨ 84 < first.toNat + count.toNat ∨ 1 < clear.toNat) →
      exec command s = .next (s.respond 0x8F#8 tag [0x03#8])) ∧
    (1 ≤ count.toNat → count.toNat ≤ 28 → first.toNat + count.toNat ≤ 84 → clear.toNat ≤ 1 →
      ∃ values : List Nat, values.length = count.toNat ∧
        (∀ n : Fin 84, first.toNat ≤ n.val → n.val < first.toNat + count.toNat →
          values.getD (n.val - first.toNat) 0 = s.report.counters[n]) ∧
        exec command s = .next ({ s with
          report := { s.report with
            counters := Vector.ofFn fun n =>
              if clear.toNat = 1 ∧ first.toNat ≤ n.val ∧ n.val < first.toNat + count.toNat then 0
              else s.report.counters[n] } }.respond 0x8F#8 tag
          (0x00#8 :: values.flatMap fun v => octets16 (BitVec.ofNat 16 v))))

/-- R54, R79, R100, R111, R130, R137, R161, R169, R185: ENGINE_RESET settles every block and keeps the rest: ramps at their
targets, the mute components where the mutes say, the pool and the pending list empty, a sweep completed, the window at its
start-up value, crossfades at their ends, the automation queue empty, counters and items cleared, waiting notice copies
discarded, and then RESET/ENGINE set. -/
def Obligations.EngineResetSettlesEngine : Prop :=
  ∀ (s : State) (tag : Octet), s.ready →
    ∃ t : State, exec (.engineReset tag []) s = .next (t.respond 0x90#8 tag [0x00#8]) ∧
      t = { s with
        chans := t.chans, groups := t.groups, buses := t.buses, matrix := t.matrix, window := MatrixWindow.reset
        sweep := .idle, egress := t.egress, queue := []
        report := { s.report with
          items := Vector.replicate 8 0#128
          unreported := 0
          timer := none
          due := false
          counters := Vector.replicate 84 0
          laneX := { s.report.laneX with waiting := none }
          laneY := { s.report.laneY with waiting := none } }.setItem .engine } ∧
      (∀ i : Fin 192, t.chans[i] = { s.chans[i] with
        trim := ⟨s.chans[i].trim.target, s.chans[i].trim.target, 0, 0⟩
        mute := if linkMuted s.ingress s.links i = true ∨ s.chans[i].opMute = true then ⟨-960, -960, 0, 0⟩
          else ⟨0, 0, 0, 0⟩ }) ∧
      (∀ g : Fin 32, t.groups[g] = { s.groups[g] with
        trim := ⟨s.groups[g].trim.target, s.groups[g].trim.target, 0, 0⟩ }) ∧
      (∀ b : Fin 64, t.buses[b] = { s.buses[b] with
        level := ⟨s.buses[b].level.target, s.buses[b].level.target, 0, 0⟩
        muteRamp := if s.buses[b].muted then ⟨-960, -960, 0, 0⟩ else ⟨0, 0, 0, 0⟩
        clipping := false }) ∧
      t.matrix.pool = [] ∧ t.matrix.waiting = [] ∧
      (∀ (r : Fin 256) (c : Fin 64), t.matrix.cell r c =
        if s.sweep = .idle then ⟨(s.matrix.cell r c).tgt, (s.matrix.cell r c).tgt, false⟩ else ⟨-960, -960, false⟩) ∧
      (∀ i : Fin 128, t.egress[i] = { s.egress[i] with
        use := match s.egress[i].use with
          | .punch b p .toLive _ => .punch b p .live (rampLen s.egress[i].cls)
          | .punch b p .toReplay _ => .punch b p .replay 0
          | u => u })

/-! ### Counters, items and notices -/

/-- R174, R176, R177, R178, R183: what additions to a counter and the setting of an item do. A counter stops at 65,535; the
addition that takes it to 32,768 sets its item, and no other sets anything. An item already set changes nothing; one of an
unsteered class is set; one of a steered class also adds to the unreported count, may start the timer, and at the coalescing
count makes a notice due, composed at once unless one is in transmission. The flag of an item is the bit of its number (R173)
in the bitmap of its class (R174). -/
def Obligations.CounterAndItemRules : Prop :=
  let flag := fun (i : Item) (c : Fin 8) (n : Nat) => itemClass i = c ∧ itemIndex i = n
  (∀ l : Link, flag (.link l) 0 (match l with | .a => 0 | .b => 1 | .c => 2 | .d => 3)) ∧ flag .clock 0 4 ∧
  (∀ b : Fin 64, flag (.clip b) 1 b.val) ∧
  flag .jump 2 0 ∧ flag .late 2 1 ∧ flag .deferred 2 2 ∧ flag .refused 2 3 ∧ flag .low 2 4 ∧
  flag .sweepDone 3 0 ∧ flag .poolWait 3 1 ∧ (∀ t : Fin 128, flag (.punch t) 4 t.val) ∧
  flag .runt 5 0 ∧ flag .long 5 1 ∧ flag .check 5 2 ∧ flag .dropped 5 3 ∧ (∀ n : Fin 84, flag (.counter n) 6 n.val) ∧
  flag .startUp 7 0 ∧ flag .engine 7 1 ∧
  ∀ r : Report,
    (∀ i : Item, r.isSet i = r.items[itemClass i].getLsbD (itemIndex i)) ∧
    (∀ (n : Fin 84) (k : Nat), r.counters[n] ≤ 65535 →
      let sum := r.counters[n] + k
      let counted := { r with counters := r.counters.set n (min 65535 sum) }
      (r.counters[n] < 32768 ∧ 32768 ≤ sum → r.addCounts n k = counted.setItem (.counter n)) ∧
      (32768 ≤ r.counters[n] ∨ sum < 32768 → r.addCounts n k = counted)) ∧
    (∀ i : Item, r.isSet i = true → r.setItem i = r) ∧
    (∀ i : Item, r.isSet i = false → r.control.coalCount ≤ 15 →
      let c := itemClass i
      let items := r.items.set c (r.items[c] ||| (1#128 <<< itemIndex i))
      (r.notices[c].steer = .none → r.setItem i = { r with items := items }) ∧
      (r.notices[c].steer ≠ .none → r.unreported + 1 < r.control.coalCount →
        r.setItem i =
          { r with
            items := items
            unreported := r.unreported + 1
            timer := if r.unreported = 0 ∧ 1 ≤ r.control.coalTimer then some (r.control.coalTimer * 48) else r.timer }) ∧
      (r.notices[c].steer ≠ .none → r.control.coalCount ≤ r.unreported + 1 → r.noticeBusy = true →
        r.setItem i = { r with items := items, unreported := min 15 (r.unreported + 1), timer := none, due := true }) ∧
      (r.notices[c].steer ≠ .none → r.control.coalCount ≤ r.unreported + 1 → r.noticeBusy = false →
        r.setItem i = { r with items := items }.compose))

/-- R12, R160, R161, R173, R175, R177, R178, R179: a due notice is composed when no copy waits or is in transmission: each
lane is given a message of kind 40h and tag 00h with an entry for each class steered to it that holds a set item, or nothing;
the items of steered ON_REPORT classes are cleared; count, timer and due mark are removed. An engine frame sends its lane
words, composes a due notice if none is left in transmission, lowers the timer, which stops and makes a notice due at its last
frame, and then takes from the buffers (`start` is the report at that point; order: log entry 9). A notice so composed stands
with its lanes at the frame's end, and one due behind another stays due. Where no notice is due, or the timer is not at its
last frame, the rows name no event (model's choice, log entry 6). -/
def Obligations.NoticeDueAndComposed : Prop :=
  ∀ s : State,
    let size := fun c : Fin 8 => [1, 8, 1, 1, 16, 1, 11, 1].getD c.val 0
    let copy := fun (r : Report) (lane : Steering) =>
      let payload := (List.finRange 8).flatMap fun c =>
        if (r.notices[c].steer = lane ∨ r.notices[c].steer = Steering.both) ∧ r.items[c] ≠ 0#128 then
          BitVec.ofNat 8 c.val :: (List.range (size c)).map fun j => (r.items[c] >>> (8 * j)).setWidth 8
        else []
      if payload = [] then none else some (Message.octets ⟨0x40#8, 0x00#8, payload⟩)
    let composed := fun r : Report => { r with
      items := Vector.ofFn fun c =>
        if r.notices[c].steer ≠ Steering.none ∧ r.notices[c].mode = ClearMode.onReport then 0#128 else r.items[c]
      unreported := 0
      timer := none
      due := false
      laneX := { r.laneX with waiting := copy r .x }
      laneY := { r.laneY with waiting := copy r .y } }
    let due := fun r : Report => if r.noticeBusy = true then { r with timer := none, due := true } else composed r
    let r := s.report
    let row := fun (c : Instr) (report : Report) => exec c s = .next { s with report := report }
    (r.due = true → r.noticeBusy = false → row .noticeComposition (composed r)) ∧
    ((r.due = false ∨ r.noticeBusy = true) → row .noticeComposition r) ∧
    (∀ n, r.timer = some n → n ≤ 1 → row .coalescingTimerExpiry (due r)) ∧
    ((r.timer = none ∨ ∃ n, r.timer = some n ∧ 1 < n) → row .coalescingTimerExpiry r) ∧
    (let sent := fun (lane : Lane) (responses : List Message) =>
       let rest := fun (traffic : Traffic) (octets : List Octet) =>
         if octets.length ≤ 4 then none else some (⟨traffic, octets.drop 4⟩ : Tx)
       match lane.tx, lane.waiting, responses with
       | some m, waiting, _ => (⟨waiting, rest m.traffic m.rest⟩ : Lane)
       | none, some copy, _ => ⟨none, rest .notice copy⟩
       | none, none, m :: _ => ⟨none, rest .response m.octets⟩
       | none, none, [] => ⟨none, none⟩
     let words : Report := { r with laneX := sent r.laneX s.responses, laneY := sent r.laneY [] }
     let ended : Report := if words.due = true ∧ words.noticeBusy = false then composed words else words
     let timed : Report := match ended.timer with
       | none => ended
       | some n => if 1 < n then { ended with timer := some (n - 1) } else due ended
     let start : Report := [(Link.b, (4 : Fin 84), (3 : Fin 84)), (.c, 7, 6), (.d, 10, 9)].foldl
       (fun r (l, slips, repeats) =>
         if (s.link l).buf.state = .running ∧ (s.link l).buf.frames = [] then (r.addCount slips).addCount repeats else r)
       timed
     s.frameStart.report = start ∧
     ∀ src : FrameSource,
       let t := s.engineFrame src
       (∀ n, r.timer = some n → 1 < n → r.due = false → (∀ c : Fin 8, r.notices[c].steer = .none) →
         t.report.timer = some (n - 1)) ∧
       (words.noticeBusy = false → (r.due = true ∨ r.timer = some 1) → (copy r .x ≠ none ∨ copy r .y ≠ none) →
         t.report.laneX.waiting = copy r .x ∧ t.report.laneY.waiting = copy r .y) ∧
       (words.noticeBusy = true → (r.due = true ∨ r.timer = some 1) → t.report.due = true) ∧
       (words.noticeBusy = true → r.timer = some 1 → r.unreported ≠ 0 → t.report.timer = none))

/-! ### The links -/

/-- R9, R22 to R31, R10, R11, R34, R36, R37: a passing frame at a receiver, link A's while the clock is FREE and not the one
that makes it ACCEPTED, no message taken before it (EngineFramePacing says what such takes do): a link ABSENT, or announcing
anew, goes to SENSING; sixteen passing frames with one announcement classify it; an ACCEPTED link's frame joins its buffer. A
change of state sets LINK, and link mute follows it. Link A's lane octets go to the framer. -/
def Obligations.PassingFrameAtReceiver : Prop :=
  ∀ (s : State) (l : Link) (o : List Octet) (f : LinkFrame) (dt n : Nat), parseFrame o = some f →
    (l = .a → s.clock.state = .free) →
    let r := s.link l
    let result := fun t : State =>
      exec (.passingFrame l o dt ⟨0, n⟩) s = .next (if l = .a then t.takeLane f.lane else t)
    let place := fun x : Receiver => s.links.set (linkIdx l) x
    let moved := fun (st : LinkState) (run : Nat) (buf : Elastic) =>
      { s with
        links := place ⟨st, some f.ann, run, 0, f.samples, buf⟩
        report := s.report.setItem (.link l)
        chans := Vector.ofFn fun i =>
          let was := linkMuted s.ingress s.links i
          let now := linkMuted s.ingress (place ⟨st, some f.ann, run, 0, f.samples, buf⟩) i
          if was = false ∧ now = true then { s.chans[i] with mute := (⟨-960, -960, 0, 0⟩ : Ramp) }
          else if was = true ∧ now = false ∧ s.chans[i].opMute = false then
            { s.chans[i] with mute := (⟨s.chans[i].mute.cur, 0, 960, 0⟩ : Ramp) }
          else s.chans[i] }
    let idle : Elastic := ⟨.idle, [], zeroSamples⟩
    let entry := s.accept[f.ann.cls]
    let admitted := entry.accept = true ∧ entry.min ≤ f.ann.slots ∧ f.ann.slots ≤ entry.max
    let joined := (if 4 ≤ r.buf.frames.length then r.buf.frames.drop 1 else r.buf.frames) ++ [.received f.samples]
    (r.state = .absent → result (moved .sensing 1 idle)) ∧
    (r.state = .sensing → ¬(1 ≤ r.run ∧ r.ann = some f.ann) →
      result { s with links := place ⟨.sensing, some f.ann, 1, 0, f.samples, r.buf⟩ }) ∧
    (r.state = .sensing → 1 ≤ r.run → r.ann = some f.ann → r.run ≠ 15 →
      result { s with links := place ⟨.sensing, some f.ann, r.run + 1, 0, f.samples, r.buf⟩ }) ∧
    (r.state = .sensing → r.run = 15 → r.ann = some f.ann → admitted → l ≠ .a →
      result (moved .accepted 16 ⟨.priming, [.received f.samples], zeroSamples⟩)) ∧
    (r.state = .sensing → r.run = 15 → r.ann = some f.ann → ¬admitted → result (moved .rejected 16 idle)) ∧
    (r.state = .accepted → r.ann = some f.ann → l ≠ .a →
      result { s with
        links := place { r with
          badRun := 0
          lastGood := f.samples
          buf := { r.buf with
            frames := joined
            state := if r.buf.state = .priming ∧ 2 ≤ joined.length then .running else r.buf.state } }
        report := if 4 ≤ r.buf.frames.length then s.report.addSlip l else s.report }) ∧
    (r.state = .rejected → r.ann = some f.ann →
      result { s with links := place { r with badRun := 0, lastGood := f.samples } }) ∧
    ((r.state = .rejected ∨ (r.state = .accepted ∧ l ≠ .a)) → r.ann ≠ some f.ann → result (moved .sensing 1 idle))

/-- R8, R11, R17, R23, R25, R28, R30, R31, R36, R155: a bad or missing frame at a receiver, link A's unless ACCEPTED and while
the clock is FREE: nothing in ABSENT (of a missing frame, which R5 does not declare there, that the row changes nothing is log
entry 11's); a run broken in SENSING; a repeat, counted and joined, in ACCEPTED; and at the eighth in a row the link goes to
ABSENT. Link A's hands the framer a break, and its missing frame spoils the interval. Counters come first, then LINK, then the
framer's break (order: log entry 9). -/
def Obligations.FailedFrameAtReceiver : Prop :=
  ∀ (s : State) (l : Link) (dt : Nat) (bad : Bool), (l = .a → s.clock.state = .free ∧ (s.link l).state ≠ .accepted) →
    let r := s.link l
    let command := if bad then Instr.badFrame l dt else .missingFrame l
    let result := fun t : State => exec command s = .next
      (if l = .a then
        { t with
          clock := if bad then t.clock else { t.clock with running := false }
          framer := .hunt
          report := if t.framer = .hunt then t.report else (t.report.addCount 13).setItem .check }
      else t)
    let place := fun x : Receiver => s.links.set (linkIdx l) x
    let lost := fun report : Report =>
      let gone : Receiver := ⟨.absent, none, 0, 0, zeroSamples, ⟨.idle, [], zeroSamples⟩⟩
      { s with
        links := place gone
        report := report.setItem (.link l)
        chans := Vector.ofFn fun i =>
          if linkMuted s.ingress s.links i = false ∧ linkMuted s.ingress (place gone) i = true then
            { s.chans[i] with mute := (⟨-960, -960, 0, 0⟩ : Ramp) }
          else s.chans[i] }
    let counted := if bad then s.report.addCount (badFramesOf l) else s.report
    let repeated := counted.addCount (repeatsOf l)
    let joined := (if 4 ≤ r.buf.frames.length then r.buf.frames.drop 1 else r.buf.frames) ++ [.repeated r.lastGood]
    (r.state = .absent → exec command s = .next s) ∧
    (r.state = .sensing → r.badRun < 7 → result { s with links := place { r with run := 0, badRun := r.badRun + 1 } }) ∧
    (r.state = .rejected → r.badRun < 7 → result { s with links := place { r with badRun := r.badRun + 1 } }) ∧
    ((r.state = .sensing ∨ r.state = .rejected) → 7 ≤ r.badRun → result (lost s.report)) ∧
    (r.state = .accepted → r.badRun < 7 → result { s with
      links := place { r with
        badRun := r.badRun + 1
        buf := { r.buf with
          frames := joined
          state := if r.buf.state = .priming ∧ 2 ≤ joined.length then .running else r.buf.state } }
      report := if 4 ≤ r.buf.frames.length then repeated.addSlip l else repeated }) ∧
    (r.state = .accepted → 7 ≤ r.badRun → result (lost counted))

/-- R8, R14, R15, R16, R17, R27, R28, R29, R155, R158: what paces the engine. Link A ACCEPTED and the clock LOCKED, a passing
frame and each of up to seven failed frames in a row makes one engine frame after the receiver's own work; the eighth, or an
announcement that differs, makes none and leaves the clock FREE and the transport stopped; the frame that classifies A as
accepted locks the clock and makes one. In FREE each oscillator period makes one, in LOCKED none (that the row then changes
nothing: log entry 11). Before the engine frame the processor takes every message that waited, and `n` of those a passing
frame completed (log entry 5), while the response queue has room and the clock stays in its state; it takes a message before a
passing frame as often as `e` says, the world's choice. The interval that ends at an arrival is kept, the latest 64 of them,
in picoseconds (log entry 3), but not the one that ends at the event taking A out of ACCEPTED (log entry 13); the rate is the
reciprocal of their mean, limited. LINK/A is set before LINK/CLOCK, and counters before both (order: log entry 9); a failed
frame's REPEATS counts whatever the takes do (model's choice, log entry 29). -/
def Obligations.EngineFramePacing : Prop :=
  ∀ (s : State) (o : List Octet) (f : LinkFrame) (dt n : Nat), parseFrame o = some f →
    let r := s.link .a
    let place := fun x : Receiver => s.links.set 0 x
    let passing := FrameSource.passing f.samples f.pos f.rolling
    let broken := fun report : Report =>
      if s.framer = .hunt then report else (report.addCount 13).setItem .check
    let remuted := fun x : Receiver => Vector.ofFn fun i : Fin 192 =>
      let was := linkMuted s.ingress s.links i
      let now := linkMuted s.ingress (place x) i
      if was = false ∧ now = true then { s.chans[i] with mute := (⟨-960, -960, 0, 0⟩ : Ramp) }
      else if was = true ∧ now = false ∧ s.chans[i].opMute = false then
        { s.chans[i] with mute := (⟨s.chans[i].mute.cur, 0, 960, 0⟩ : Ramp) }
      else s.chans[i]
    let next := fun (c : Instr) (t : State) => exec c s = .next t
    let paced := fun (takes : Nat) (src : FrameSource) (h : State) =>
      let t := State.takesWhile State.paced takes h
      if (t.link .a).state = .accepted ∧ t.clock.state = .locked then t.engineFrame src else t
    let waiting := s.commands.length
    let kept := (dt :: s.clock.kept).take 64
    let span := kept.length * 1000000000000
    let arrival : Clock :=
      if s.clock.running then
        { s.clock with
          kept := kept
          rate := some (if span < 44000 * kept.sum then ⟨44000, 1⟩ else if 50000 * kept.sum < span then ⟨50000, 1⟩
            else ⟨span, kept.sum⟩) }
      else { s.clock with running := true }
    let free : Clock := { s.clock with state := .free, kept := [], running := false }
    let left := fun x : Receiver =>
      { s with
        links := place x, clock := free, tracker := { s.tracker with rolling := false }, chans := remuted x }
    (r.state = .accepted → s.clock.state = .locked →
      (r.ann = some f.ann →
        next (.passingFrame .a o dt ⟨0, n⟩) (paced (waiting + n) passing
          ({ s with links := place { r with badRun := 0, lastGood := f.samples }, clock := arrival }.takeLane f.lane))) ∧
      (r.ann ≠ some f.ann →
        let x : Receiver := ⟨.sensing, some f.ann, 1, 0, f.samples, ⟨.idle, [], zeroSamples⟩⟩
        next (.passingFrame .a o dt ⟨0, n⟩)
          ({ left x with report := (s.report.setItem (.link .a)).setItem .clock }.takeLane f.lane)) ∧
      (r.badRun < 7 →
        next (.badFrame .a dt) (paced waiting .failed { s with
          links := place { r with badRun := r.badRun + 1 }
          clock := arrival
          framer := .hunt
          report := broken ((s.report.addCount 0).addCount 1) }) ∧
        next (.missingFrame .a) (paced waiting .failed { s with
          links := place { r with badRun := r.badRun + 1 }
          clock := { s.clock with running := false }
          framer := .hunt
          report := broken (s.report.addCount 1) })) ∧
      (7 ≤ r.badRun →
        let x : Receiver := ⟨.absent, none, 0, 0, zeroSamples, ⟨.idle, [], zeroSamples⟩⟩
        next (.badFrame .a dt) { left x with
          framer := .hunt
          report := broken (((s.report.addCount 0).setItem (.link .a)).setItem .clock) } ∧
        next (.missingFrame .a) { left x with
          framer := .hunt
          report := broken ((s.report.setItem (.link .a)).setItem .clock) })) ∧
    (r.state = .sensing → r.run = 15 → r.ann = some f.ann → s.clock.state = .free →
      s.accept[f.ann.cls].accept = true → s.accept[f.ann.cls].min ≤ f.ann.slots → f.ann.slots ≤ s.accept[f.ann.cls].max →
      let x : Receiver := ⟨.accepted, some f.ann, 16, 0, f.samples, ⟨.idle, [], zeroSamples⟩⟩
      next (.passingFrame .a o dt ⟨0, n⟩) (paced (waiting + n) passing
        ({ s with
          links := place x
          clock := { s.clock with state := .locked, kept := [], running := true }
          chans := remuted x
          report := (s.report.setItem (.link .a)).setItem .clock }.takeLane f.lane))) ∧
    (s.clock.state = .free →
      let t := State.takesWhile State.free waiting s
      next .oscillatorPeriod (if t.clock.state = .free then t.engineFrame .oscillator else t)) ∧
    (s.clock.state = .locked → next .oscillatorPeriod s) ∧
    (∀ (holds : State → Bool) (k : Nat) (t : State),
      (k = 0 ∨ holds t = false ∨ t.commands = [] ∨ 16 ≤ t.responses.length → State.takesWhile holds k t = t) ∧
      (∀ m rest, holds t = true → t.commands = m :: rest → t.responses.length < 16 →
        State.takesWhile holds (k + 1) t = State.takesWhile holds k ({ t with commands := rest }.execute m))) ∧
    ∀ (l : Link) (octets : List Octet) (e : Nat),
      (s.commands = [] ∨ 16 ≤ s.responses.length →
        exec (.passingFrame l octets dt ⟨e, n⟩) s = exec (.passingFrame l octets dt ⟨0, n⟩) s) ∧
      (∀ m rest, s.commands = m :: rest → s.responses.length < 16 →
        exec (.passingFrame l octets dt ⟨e + 1, n⟩) s =
          exec (.passingFrame l octets dt ⟨e, n⟩) ({ s with commands := rest }.execute m))

/-! ### The engine frame -/

/-- R8, R12, R18 to R21, R39, R46, R53, R65, R114, R117 to R121, R131, R132, R157, R159, R160: every engine frame hands the
tracker a position and rolling flag by what made it; sends on X and Y a frame of the older held results, with the header of
its composition (the flag summary as it is before a notice that then falls due is composed: log entry 12) and the lane words
of R160; leaves with each lane the rest of its message, none when its last octets went out; drops a response so ended; takes
from the buffers of B, C and D, a running one that is dry counting a slip and a repeat; advances every dedicated ramp by one
step; and holds its results, the samples of the 128 output slots, slots 0..63 for X and 64..127 for Y, behind the newer of
those held. A raw sample is that of the slot an enabled window maps. -/
def Obligations.EngineFrameEffects : Prop :=
  ∀ (s : State) (src : FrameSource),
    let t := s.engineFrame src
    let u := s.frameEvents src
    let m := s.frameMoves src
    let word := fun (lane : Lane) (responses : List Message) =>
      let rest := match lane.tx, lane.waiting, responses with
        | some m, _, _ => m.rest
        | none, some copy, _ => copy
        | none, none, m :: _ => m.octets
        | none, none, [] => []
      (rest ++ [0#8, 0#8, 0#8, 0#8]).take 4
    t.tracker = (match src with
      | .passing _ p r => ⟨p, r⟩
      | .failed => if s.tracker.rolling then ⟨s.tracker.pos + 1, true⟩ else s.tracker
      | .oscillator => ⟨s.tracker.pos, false⟩) ∧
    t.heldOld = s.heldNew ∧ t.heldNew.pos = t.tracker.pos ∧ t.heldNew.rolling = t.tracker.rolling ∧
    (∃ p : SentPair, t.sent = some p ∧
      (∀ q ∈ [p.x, p.y], q.cls = 1 ∧ q.slots = 64 ∧ q.pos = s.heldOld.pos ∧ q.rolling = s.heldOld.rolling ∧
        q.hold = decide (16 - s.commands.length ≤ s.report.control.holdThreshold) ∧
        q.locked = decide (s.clock.state = .locked) ∧
        ∀ c : Fin 8, q.summary.getLsbD c.val = decide (s.report.items[c] ≠ 0#128)) ∧
      p.x.ident = 0 ∧ p.y.ident = 1 ∧ p.x.samples = s.heldOld.x ∧ p.y.samples = s.heldOld.y ∧
      p.x.lane = word s.report.laneX s.responses ∧ p.y.lane = word s.report.laneY []) ∧
    ((∃ rest, s.report.laneX.tx = some ⟨.response, rest⟩ ∧ rest.length ≤ 4) → t.responses = s.responses.drop 1) ∧
    ((¬∃ rest, s.report.laneX.tx = some ⟨.response, rest⟩ ∧ rest.length ≤ 4) → t.responses = s.responses) ∧
    -- the lane transmitters
    (let left := fun (traffic : Traffic) (octets : List Octet) =>
       if octets.length ≤ 4 then none else some (⟨traffic, octets.drop 4⟩ : Tx)
     ∀ before after responses, (before, after, responses) ∈
         [(s.report.laneX, t.report.laneX, s.responses), (s.report.laneY, t.report.laneY, [])] →
       after.tx = (match before.tx, before.waiting, responses with
         | some m, _, _ => left m.traffic m.rest
         | none, some copy, _ => left .notice copy
         | none, none, m :: _ => left .response m.octets
         | none, none, [] => none) ∧
       ∀ copy, before.waiting = some copy →
         (before.tx ≠ none → after.waiting = some copy) ∧ (before.tx = none → 4 < copy.length → after.waiting = none)) ∧
    t.clock = s.clock ∧ t.accept = s.accept ∧ t.ingress = s.ingress ∧ t.window = s.window ∧ t.framer = s.framer ∧
    t.commands = s.commands ∧ t.pending = s.pending ∧
    -- the takes
    t.link .a = s.link .a ∧
    (∀ l : Link, l ≠ .a → t.link l = { s.link l with
      buf := match (s.link l).buf.state, (s.link l).buf.frames with
        | .running, .received x :: rest => ⟨.running, rest, x⟩
        | .running, .repeated x :: rest => ⟨.running, rest, x⟩
        | .running, [] => (s.link l).buf
        | state, frames => ⟨state, frames, zeroSamples⟩ }) ∧
    (∀ (l : Link) (slips repeats : Fin 84), (l, slips, repeats) ∈ [(Link.b, 4, 3), (.c, 7, 6), (.d, 10, 9)] →
      let dry := if (s.link l).buf.state = .running ∧ (s.link l).buf.frames = [] then 1 else 0
      ∀ n ∈ [slips, repeats], s.report.counters[n] ≤ 65535 →
        t.report.counters[n] = min 65535 (s.report.counters[n] + dry)) ∧
    -- the dedicated ramps
    (let step := fun r : Ramp => if r.len ≤ r.k then r else { r with k := r.k + 1 }
     (∀ i : Fin 192, t.chans[i] = { u.chans[i] with trim := step u.chans[i].trim, mute := step u.chans[i].mute }) ∧
     (∀ g : Fin 32, t.groups[g] = { u.groups[g] with trim := step u.groups[g].trim }) ∧
     (∀ b : Fin 64, t.buses[b] = { u.buses[b] with
       level := step u.buses[b].level, muteRamp := step u.buses[b].muteRamp, clipping := t.buses[b].clipping })) ∧
    -- the samples held
    (let supplied := fun k : Nat =>
       if k = 0 then (match src with | .passing x _ _ => x | .failed => (s.link .a).lastGood | .oscillator => zeroSamples)
       else if k = 1 then (t.link .b).buf.supplied else if k = 2 then (t.link .c).buf.supplied
       else (t.link .d).buf.supplied
     let raw := m.rawSample src
     let sample := fun i : Fin 192 =>
       if t.chans[i].polarity = .inverted then clampInt (-8388608) 8388607 (-raw i) else raw i
     let y := (m.computeBuses (Vector.ofFn sample)).out
     let group := fun i : Fin 192 => match t.chans[i].group with | none => (0 : Int) | some g => t.groups[g].trim.cur
     let output := fun j : Fin 128 =>
       match t.egress[j].use with
       | .off => 0
       | .bus b => y[b]
       | .direct i => clampInt (-8388608) 8388607
           ((sample i * (multiplier [t.chans[i].trim.cur, group i, t.chans[i].mute.cur] : Int) + 32768) / 65536)
       | .punch b p state k =>
         let len : Int := rampLen t.egress[j].cls
         if len = 0 then (if state = .live then y[b] else raw p)
         else (2 * (y[b] * (k : Int) + raw p * (len - (k : Int))) + len) / (2 * len)
     (∀ i : Fin 192, (∀ w : Fin 16, s.ingress[w].covers i.val = false) → raw i = 0) ∧
     (∀ (i : Fin 192) (w : Fin 16), s.ingress[w].covers i.val = true →
       (∀ v : Fin 16, v ≠ w → s.ingress[v].covers i.val = false) →
       raw i = (supplied (w.val / 4)).toList.getD (s.ingress[w].first + (i.val - s.ingress[w].chan)) 0) ∧
     ∀ j : Fin 64, t.heldNew.x[j] = output ⟨j.val, by omega⟩ ∧ t.heldNew.y[j] = output ⟨64 + j.val, by omega⟩)

/-- R133, R135, R142 to R145, R148: the automation queue at an engine frame. A passing frame whose position is not the
expected one empties it, each event counted in FLUSHED, and then sets QUEUE/JUMP and, when the count stood above the low mark,
QUEUE/LOW. Otherwise a stopped frame takes nothing, and a rolling one takes at most eight events from the head, each due at or
before the frame's position, ending early only at an empty queue, an event not yet due, or an XP_TARGET held by a sweep; they
are applied in their order, each on the state those before it left, one above its due position being counted in DEFERRED and
then setting QUEUE/DEFERRED; and QUEUE/LOW is set when the count fell through the low mark (orders: log entry 9). -/
def Obligations.AutomationAtFrame : Prop :=
  ∀ (s : State) (src : FrameSource),
    let t := s.engineFrame src
    let u := s.frameEvents src
    let begun := { s.frameStart with tracker := t.tracker }
    let expected := if s.tracker.rolling = false then some s.tracker.pos
      else if s.tracker.pos.toNat = 4294967295 then none else some (s.tracker.pos + 1)
    let jump := match src with
      | .passing _ p _ => expected ≠ some p
      | _ => False
    let held := fun e : AutoEvent => s.sweep ≠ .idle ∧ ∃ r c code n, e.move = .xpTarget r c code n
    let applied := fun (v : State) (e : AutoEvent) =>
      let w := { v with queue := v.queue.drop 1 }.applyMove e.move
      if e.due < t.tracker.pos then { w with report := (w.report.addCount 16).setItem .deferred } else w
    let mark := s.report.control.lowMark
    let low := fun (count : Nat) (v : State) =>
      if mark < count ∧ v.queue.length ≤ mark then { v with report := v.report.setItem .low } else v
    begun = { s with
      links := begun.links, responses := begun.responses, sent := begun.sent, report := begun.report
      tracker := t.tracker } ∧
    begun.report.control = s.report.control ∧ begun.report.notices = s.report.notices ∧ t.queue = u.queue ∧
    (jump → u = low s.queue.length { begun with
      queue := [], report := (begun.report.addCounts 17 s.queue.length).setItem .jump }) ∧
    (¬jump → t.tracker.rolling = false → u = begun) ∧
    (¬jump → t.tracker.rolling = true → ∃ k, k ≤ 8 ∧ t.queue = s.queue.drop k ∧
      (∀ e ∈ s.queue.take k, e.due ≤ t.tracker.pos ∧ ¬held e) ∧
      (k < 8 → ∀ e rest, s.queue.drop k = e :: rest → t.tracker.pos < e.due ∨ held e) ∧
      u = low s.queue.length ((s.queue.take k).foldl applied begun))

/-- R57, R58, R59, R101 to R112: the sums of every engine frame. Under the tier law the outputs satisfy all 64 column
equations at once: each bus is the sum over its 256 crosspoints of row sample and multiplier, scaled, saturated, levelled and
saturated again, where a bus row carries that bus's own final output of the same frame. They are made of the frame's channel
samples and of the codes as they stand after its ramp advance, where the tier law still holds. Each bus's clip state becomes
whether it clipped in this frame; a clip of a bus that did not clip in the frame before sets CLIP/c and adds one to its
CLIP_COUNT, bus after bus in the order they are computed (log entry 9); in CLIP steered NONE the item stands at the frame's
end. -/
def Obligations.EveryBusIsTheSumOfItsColumn : Prop :=
  (∀ (s : State) (xs : Vector Int 192), TierLaw s →
    let y := (s.computeBuses xs).out
    let group := fun i : Fin 192 => match s.chans[i].group with | none => (0 : Int) | some g => s.groups[g].trim.cur
    let channelTerm := fun (i : Fin 192) (c : Fin 64) =>
      xs[i] * (multiplier [(s.matrix.cell ⟨i.val, by omega⟩ c).cur, s.chans[i].trim.cur, group i, s.chans[i].mute.cur] : Int)
    let busTerm := fun b c : Fin 64 => y[b] * (multiplier [(s.matrix.cell (busRow b) c).cur] : Int)
    ∀ c : Fin 64,
      let acc := ((List.finRange 192).map fun i => channelTerm i c).sum + ((List.finRange 64).map fun b => busTerm b c).sum
      let result := busResult acc (multiplier [s.buses[c].level.cur, s.buses[c].muteRamp.cur])
      y[c] = result.out ∧ (s.computeBuses xs).clipped[c] = result.clipped) ∧
  ∀ (s : State) (src : FrameSource),
    let t := s.engineFrame src
    let m := s.frameMoves src
    let xs : Vector Int 192 := Vector.ofFn fun i => polarise m.chans[i].polarity (m.rawSample src i)
    let sums := m.computeBuses xs
    (MatrixOk s.matrix → TierLaw s → TierLaw m) ∧
    ((m.computeFrame src).report =
      ((List.finRange 4).flatMap fun tier => (List.finRange 64).filter fun c => m.buses[c].tier = tier).foldl
        (fun r c => if sums.clipped[c] = true ∧ s.buses[c].clipping = false then (r.setItem (.clip c)).addCount (clipCountOf c)
          else r) m.report) ∧
    t.heldNew.x = m.outputs (Vector.ofFn (m.rawSample src)) xs sums.out 0 (by omega) ∧
    t.heldNew.y = m.outputs (Vector.ofFn (m.rawSample src)) xs sums.out 64 (by omega) ∧
    ∀ c : Fin 64,
      let onset := sums.clipped[c] = true ∧ s.buses[c].clipping = false
      let count := clipCountOf c
      t.buses[c].clipping = sums.clipped[c] ∧
      (s.report.counters[count] ≤ 65535 →
        t.report.counters[count] = min 65535 (s.report.counters[count] + if onset then 1 else 0)) ∧
      (s.report.notices[(1 : Fin 8)].steer = .none →
        (t.report.items[(1 : Fin 8)].getLsbD c.val = true ↔
          s.report.items[(1 : Fin 8)].getLsbD c.val = true ∨ onset))

/-- R46, R106, R107, R108, R110, R121: the arithmetic of a sample. Scaling is the exact quotient by 65,536 rounded half up; a
bus saturates after its sum and after its level and clips when either takes effect; inversion gives +8,388,607 for the most
negative sample; a crossfade is the weighted mean rounded half up, lies between its two samples, and is each of them at its
end. -/
def Obligations.SampleArithmetic : Prop :=
  (∀ p : Int, 65536 * scaleHalfUp p ≤ p + 32768 ∧ p + 32768 < 65536 * (scaleHalfUp p + 1)) ∧
  (∀ (acc : Int) (g : Nat),
    let s := clampInt (-8388608) 8388607 (scaleHalfUp acc)
    let y := scaleHalfUp (s * (g : Int))
    (busResult acc g).out = clampInt (-8388608) 8388607 y ∧
    ((busResult acc g).clipped = true ↔
      549755781120 ≤ acc ∨ acc < -549755846656 ∨ 549755813888 ≤ s * (g : Int) + 32768 ∨
        s * (g : Int) + 32768 < -549755813888)) ∧
  (∀ x : Int, -8388608 ≤ x → x ≤ 8388607 →
    polarise .normal x = x ∧ polarise .inverted x = if x = -8388608 then 8388607 else -x) ∧
  (∀ (v p : Int) (k len : Nat), 0 < len → k ≤ len →
    let out := crossfade v p k len
    let total := 2 * (v * (k : Int) + p * ((len : Int) - (k : Int)))
    2 * (len : Int) * out ≤ total + len ∧ total + len < 2 * (len : Int) * (out + 1) ∧ min v p ≤ out ∧ out ≤ max v p ∧
      crossfade v p len len = v ∧ crossfade v p 0 len = p)

/-- R59, R60: the table holds, for every code of −959..+144, the integer nearest to 65,536 × 10^(e/160), halves upward, shown by
160th powers; an off code has the multiplier 0, and no multiplier exceeds 520,571. -/
def Obligations.GainTableIsNearest : Prop :=
  (∀ e : Fin 1104,
    let code : Int := (e.val : Int) - 959
    let g := gain code
    (0 ≤ code → (2 * g - 1) ^ 160 ≤ 131072 ^ 160 * 10 ^ code.toNat ∧ 131072 ^ 160 * 10 ^ code.toNat < (2 * g + 1) ^ 160) ∧
    (code < 0 → (2 * g - 1) ^ 160 * 10 ^ (-code).toNat ≤ 131072 ^ 160 ∧
      131072 ^ 160 < (2 * g + 1) ^ 160 * 10 ^ (-code).toNat)) ∧
  (∀ codes : List Int, (-960 ∈ codes ∨ clampInt (-960) 144 codes.sum = -960) → multiplier codes = 0) ∧
  (∀ codes : List Int, ¬(-960 ∈ codes ∨ clampInt (-960) 144 codes.sum = -960) →
    multiplier codes = gain (clampInt (-960) 144 codes.sum)) ∧
  ∀ codes : List Int, multiplier codes ≤ 520571

/-- R61 to R63: the class lengths; a new target begins a ramp at the current code, or with length 0 is the code at once; an
advance raises k until it is the length; the current code is the start plus the truncated fraction, lies between start and
target, and is the target after as many advances as the length and ever after. -/
def Obligations.RampLaw : Prop :=
  (List.finRange 8).map rampLen = [0, 48, 96, 240, 480, 960, 2400, 4800] ∧
  ∀ (r : Ramp) (t : Int) (len : Nat),
    (r.aim t 0).cur = t ∧ (0 < len → r.aim t len = ⟨r.cur, t, len, 0⟩ ∧ (r.aim t len).cur = r.cur) ∧
    (r.k < r.len → r.advance = { r with k := r.k + 1 } ∧
      r.cur = r.start + ((r.target - r.start) * (r.k : Int)).tdiv (r.len : Int)) ∧
    (r.len ≤ r.k → r.advance = r ∧ r.cur = r.target) ∧
    min r.start r.target ≤ r.cur ∧ r.cur ≤ max r.start r.target ∧
    ∀ j, 0 < len → len ≤ j → (Nat.repeat Ramp.advance j (r.aim t len)).cur = t

/-! ### What every step keeps -/

/-- R70, R71, R75, R76, R80, R82, R83, R84: pool, pending list and crosspoints stay in agreement, and the tier law holds,
whatever command comes. -/
def Obligations.MatrixAndTierLawKept : Prop :=
  ∀ s t : State, MatrixOk s.matrix → TierLaw s → step s = .next t → MatrixOk t.matrix ∧ TierLaw t

/-- R50, R56, R62, R68, R136: every code stored, ramping or queued stays in its component's range. R37, R50, R51, R54, R68: the
target of a channel's mute component stays −960 while the channel is operator-muted or link-muted and 0 otherwise, a link-muted
channel's component stays at −960 with no ramp, and a bus mute component's target stays −960 while the bus is muted and 0
otherwise. -/
def Obligations.CodesStayInRange : Prop :=
  ∀ s t : State, step s = .next t → (CodesOk s → CodesOk t) ∧ (MutesOk s → MutesOk t)

/-- R32, R38, R41, R86, R87, R95, R96, R137, R183: the queue stays ordered and within 512, counters within 65,535, the tables
as a write could leave them with no channel fed twice, the counter inside its window, and a sweep on whole frames of visits.
-/
def Obligations.StoredStateKept : Prop :=
  (∀ s t : State, QueueOk s → step s = .next t → QueueOk t) ∧
  (∀ s t : State, CountersOk s → step s = .next t → CountersOk t) ∧
  (∀ s t : State, TablesOk s → step s = .next t → TablesOk t) ∧
  (∀ s t : State, WindowOk s.window → step s = .next t → WindowOk t.window) ∧
  (∀ s t : State, SweepOk s → step s = .next t → SweepOk t)

/-- R152, R153, R157, R159, R160: the queues of the command channel stay within 16, the framer's holding stays a message
begun, and the response in transmission stays the oldest of its queue. -/
def Obligations.ChannelAndLanesKept : Prop :=
  (∀ s t : State, ChannelOk s → step s = .next t → ChannelOk t) ∧ ∀ s t : State, LanesOk s → step s = .next t → LanesOk t

/-- R10, R14, R22 to R30, R134: whatever arrives or is commanded, the clock is LOCKED exactly while link A is ACCEPTED, the
transport is stopped in FREE, and each receiver's state, announcement, counts and buffer agree. -/
def Obligations.LinksAndClockKept : Prop :=
  ∀ s t : State, ClockOk s → ReceiversOk s → step s = .next t → ClockOk t ∧ ReceiversOk t

/-- R120, R124, R125, R126, R130: a punch slot's position stays 0 in REPLAY, L in LIVE and between them while it crossfades. -/
def Obligations.PunchPositionsKept : Prop := ∀ s t : State, PunchOk s → step s = .next t → PunchOk t

/-- R161, R167, R176, R177, R178: the ranges of the four CONTROL fields, the unreported count, the timer, the due mark and the
notice copies stay in agreement. -/
def Obligations.NoticeBlockKept : Prop := ∀ s t : State, NoticeOk s.report → step s = .next t → NoticeOk t.report

/-- The start-up state has every property that a step keeps. -/
def Obligations.ResetHasEveryKeptProperty : Prop :=
  let z := State.reset
  MatrixOk z.matrix ∧ TierLaw z ∧ CodesOk z ∧ MutesOk z ∧ QueueOk z ∧ CountersOk z ∧ TablesOk z ∧ WindowOk z.window ∧
    SweepOk z ∧ ChannelOk z ∧ LanesOk z ∧ ClockOk z ∧ ReceiversOk z ∧ PunchOk z ∧ NoticeOk z.report
end

