-- ==== Sys2Proof/Laws/State.lean ====
section
/-! SUPPORT. One lemma per field for each plain update of the state: what the update leaves as it was. -/

namespace Sys2Proof.Machine

/-! `setItem` changes report only. -/

@[simp] theorem State.setItem_links (s : State) (i : Item) : (s.setItem i).links = s.links := rfl
@[simp] theorem State.setItem_clock (s : State) (i : Item) : (s.setItem i).clock = s.clock := rfl
@[simp] theorem State.setItem_accept (s : State) (i : Item) : (s.setItem i).accept = s.accept := rfl
@[simp] theorem State.setItem_ingress (s : State) (i : Item) : (s.setItem i).ingress = s.ingress := rfl
@[simp] theorem State.setItem_chans (s : State) (i : Item) : (s.setItem i).chans = s.chans := rfl
@[simp] theorem State.setItem_groups (s : State) (i : Item) : (s.setItem i).groups = s.groups := rfl
@[simp] theorem State.setItem_buses (s : State) (i : Item) : (s.setItem i).buses = s.buses := rfl
@[simp] theorem State.setItem_matrix (s : State) (i : Item) : (s.setItem i).matrix = s.matrix := rfl
@[simp] theorem State.setItem_window (s : State) (i : Item) : (s.setItem i).window = s.window := rfl
@[simp] theorem State.setItem_sweep (s : State) (i : Item) : (s.setItem i).sweep = s.sweep := rfl
@[simp] theorem State.setItem_egress (s : State) (i : Item) : (s.setItem i).egress = s.egress := rfl
@[simp] theorem State.setItem_tracker (s : State) (i : Item) : (s.setItem i).tracker = s.tracker := rfl
@[simp] theorem State.setItem_queue (s : State) (i : Item) : (s.setItem i).queue = s.queue := rfl
@[simp] theorem State.setItem_framer (s : State) (i : Item) : (s.setItem i).framer = s.framer := rfl
@[simp] theorem State.setItem_commands (s : State) (i : Item) : (s.setItem i).commands = s.commands := rfl
@[simp] theorem State.setItem_responses (s : State) (i : Item) : (s.setItem i).responses = s.responses := rfl
@[simp] theorem State.setItem_heldOld (s : State) (i : Item) : (s.setItem i).heldOld = s.heldOld := rfl
@[simp] theorem State.setItem_heldNew (s : State) (i : Item) : (s.setItem i).heldNew = s.heldNew := rfl
@[simp] theorem State.setItem_sent (s : State) (i : Item) : (s.setItem i).sent = s.sent := rfl
@[simp] theorem State.setItem_pending (s : State) (i : Item) : (s.setItem i).pending = s.pending := rfl

/-! `addCount` changes report only. -/

@[simp] theorem State.addCount_links (s : State) (n : Fin 84) : (s.addCount n).links = s.links := rfl
@[simp] theorem State.addCount_clock (s : State) (n : Fin 84) : (s.addCount n).clock = s.clock := rfl
@[simp] theorem State.addCount_accept (s : State) (n : Fin 84) : (s.addCount n).accept = s.accept := rfl
@[simp] theorem State.addCount_ingress (s : State) (n : Fin 84) : (s.addCount n).ingress = s.ingress := rfl
@[simp] theorem State.addCount_chans (s : State) (n : Fin 84) : (s.addCount n).chans = s.chans := rfl
@[simp] theorem State.addCount_groups (s : State) (n : Fin 84) : (s.addCount n).groups = s.groups := rfl
@[simp] theorem State.addCount_buses (s : State) (n : Fin 84) : (s.addCount n).buses = s.buses := rfl
@[simp] theorem State.addCount_matrix (s : State) (n : Fin 84) : (s.addCount n).matrix = s.matrix := rfl
@[simp] theorem State.addCount_window (s : State) (n : Fin 84) : (s.addCount n).window = s.window := rfl
@[simp] theorem State.addCount_sweep (s : State) (n : Fin 84) : (s.addCount n).sweep = s.sweep := rfl
@[simp] theorem State.addCount_egress (s : State) (n : Fin 84) : (s.addCount n).egress = s.egress := rfl
@[simp] theorem State.addCount_tracker (s : State) (n : Fin 84) : (s.addCount n).tracker = s.tracker := rfl
@[simp] theorem State.addCount_queue (s : State) (n : Fin 84) : (s.addCount n).queue = s.queue := rfl
@[simp] theorem State.addCount_framer (s : State) (n : Fin 84) : (s.addCount n).framer = s.framer := rfl
@[simp] theorem State.addCount_commands (s : State) (n : Fin 84) : (s.addCount n).commands = s.commands := rfl
@[simp] theorem State.addCount_responses (s : State) (n : Fin 84) : (s.addCount n).responses = s.responses := rfl
@[simp] theorem State.addCount_heldOld (s : State) (n : Fin 84) : (s.addCount n).heldOld = s.heldOld := rfl
@[simp] theorem State.addCount_heldNew (s : State) (n : Fin 84) : (s.addCount n).heldNew = s.heldNew := rfl
@[simp] theorem State.addCount_sent (s : State) (n : Fin 84) : (s.addCount n).sent = s.sent := rfl
@[simp] theorem State.addCount_pending (s : State) (n : Fin 84) : (s.addCount n).pending = s.pending := rfl

/-! `setLink` changes links only. -/

@[simp] theorem State.setLink_clock (s : State) (l : Link) (r : Receiver) : (s.setLink l r).clock = s.clock := rfl
@[simp] theorem State.setLink_accept (s : State) (l : Link) (r : Receiver) : (s.setLink l r).accept = s.accept := rfl
@[simp] theorem State.setLink_ingress (s : State) (l : Link) (r : Receiver) : (s.setLink l r).ingress = s.ingress := rfl
@[simp] theorem State.setLink_chans (s : State) (l : Link) (r : Receiver) : (s.setLink l r).chans = s.chans := rfl
@[simp] theorem State.setLink_groups (s : State) (l : Link) (r : Receiver) : (s.setLink l r).groups = s.groups := rfl
@[simp] theorem State.setLink_buses (s : State) (l : Link) (r : Receiver) : (s.setLink l r).buses = s.buses := rfl
@[simp] theorem State.setLink_matrix (s : State) (l : Link) (r : Receiver) : (s.setLink l r).matrix = s.matrix := rfl
@[simp] theorem State.setLink_window (s : State) (l : Link) (r : Receiver) : (s.setLink l r).window = s.window := rfl
@[simp] theorem State.setLink_sweep (s : State) (l : Link) (r : Receiver) : (s.setLink l r).sweep = s.sweep := rfl
@[simp] theorem State.setLink_egress (s : State) (l : Link) (r : Receiver) : (s.setLink l r).egress = s.egress := rfl
@[simp] theorem State.setLink_tracker (s : State) (l : Link) (r : Receiver) : (s.setLink l r).tracker = s.tracker := rfl
@[simp] theorem State.setLink_queue (s : State) (l : Link) (r : Receiver) : (s.setLink l r).queue = s.queue := rfl
@[simp] theorem State.setLink_framer (s : State) (l : Link) (r : Receiver) : (s.setLink l r).framer = s.framer := rfl
@[simp] theorem State.setLink_commands (s : State) (l : Link) (r : Receiver) : (s.setLink l r).commands = s.commands := rfl
@[simp] theorem State.setLink_responses (s : State) (l : Link) (r : Receiver) : (s.setLink l r).responses = s.responses := rfl
@[simp] theorem State.setLink_report (s : State) (l : Link) (r : Receiver) : (s.setLink l r).report = s.report := rfl
@[simp] theorem State.setLink_heldOld (s : State) (l : Link) (r : Receiver) : (s.setLink l r).heldOld = s.heldOld := rfl
@[simp] theorem State.setLink_heldNew (s : State) (l : Link) (r : Receiver) : (s.setLink l r).heldNew = s.heldNew := rfl
@[simp] theorem State.setLink_sent (s : State) (l : Link) (r : Receiver) : (s.setLink l r).sent = s.sent := rfl
@[simp] theorem State.setLink_pending (s : State) (l : Link) (r : Receiver) : (s.setLink l r).pending = s.pending := rfl

/-! `setChan` changes chans only. -/

@[simp] theorem State.setChan_links (s : State) (i : Fin 192) (c : Chan) : (s.setChan i c).links = s.links := rfl
@[simp] theorem State.setChan_clock (s : State) (i : Fin 192) (c : Chan) : (s.setChan i c).clock = s.clock := rfl
@[simp] theorem State.setChan_accept (s : State) (i : Fin 192) (c : Chan) : (s.setChan i c).accept = s.accept := rfl
@[simp] theorem State.setChan_ingress (s : State) (i : Fin 192) (c : Chan) : (s.setChan i c).ingress = s.ingress := rfl
@[simp] theorem State.setChan_groups (s : State) (i : Fin 192) (c : Chan) : (s.setChan i c).groups = s.groups := rfl
@[simp] theorem State.setChan_buses (s : State) (i : Fin 192) (c : Chan) : (s.setChan i c).buses = s.buses := rfl
@[simp] theorem State.setChan_matrix (s : State) (i : Fin 192) (c : Chan) : (s.setChan i c).matrix = s.matrix := rfl
@[simp] theorem State.setChan_window (s : State) (i : Fin 192) (c : Chan) : (s.setChan i c).window = s.window := rfl
@[simp] theorem State.setChan_sweep (s : State) (i : Fin 192) (c : Chan) : (s.setChan i c).sweep = s.sweep := rfl
@[simp] theorem State.setChan_egress (s : State) (i : Fin 192) (c : Chan) : (s.setChan i c).egress = s.egress := rfl
@[simp] theorem State.setChan_tracker (s : State) (i : Fin 192) (c : Chan) : (s.setChan i c).tracker = s.tracker := rfl
@[simp] theorem State.setChan_queue (s : State) (i : Fin 192) (c : Chan) : (s.setChan i c).queue = s.queue := rfl
@[simp] theorem State.setChan_framer (s : State) (i : Fin 192) (c : Chan) : (s.setChan i c).framer = s.framer := rfl
@[simp] theorem State.setChan_commands (s : State) (i : Fin 192) (c : Chan) : (s.setChan i c).commands = s.commands := rfl
@[simp] theorem State.setChan_responses (s : State) (i : Fin 192) (c : Chan) : (s.setChan i c).responses = s.responses := rfl
@[simp] theorem State.setChan_report (s : State) (i : Fin 192) (c : Chan) : (s.setChan i c).report = s.report := rfl
@[simp] theorem State.setChan_heldOld (s : State) (i : Fin 192) (c : Chan) : (s.setChan i c).heldOld = s.heldOld := rfl
@[simp] theorem State.setChan_heldNew (s : State) (i : Fin 192) (c : Chan) : (s.setChan i c).heldNew = s.heldNew := rfl
@[simp] theorem State.setChan_sent (s : State) (i : Fin 192) (c : Chan) : (s.setChan i c).sent = s.sent := rfl
@[simp] theorem State.setChan_pending (s : State) (i : Fin 192) (c : Chan) : (s.setChan i c).pending = s.pending := rfl

/-! `setGroup` changes groups only. -/

@[simp] theorem State.setGroup_links (s : State) (i : Fin 32) (g : Group) : (s.setGroup i g).links = s.links := rfl
@[simp] theorem State.setGroup_clock (s : State) (i : Fin 32) (g : Group) : (s.setGroup i g).clock = s.clock := rfl
@[simp] theorem State.setGroup_accept (s : State) (i : Fin 32) (g : Group) : (s.setGroup i g).accept = s.accept := rfl
@[simp] theorem State.setGroup_ingress (s : State) (i : Fin 32) (g : Group) : (s.setGroup i g).ingress = s.ingress := rfl
@[simp] theorem State.setGroup_chans (s : State) (i : Fin 32) (g : Group) : (s.setGroup i g).chans = s.chans := rfl
@[simp] theorem State.setGroup_buses (s : State) (i : Fin 32) (g : Group) : (s.setGroup i g).buses = s.buses := rfl
@[simp] theorem State.setGroup_matrix (s : State) (i : Fin 32) (g : Group) : (s.setGroup i g).matrix = s.matrix := rfl
@[simp] theorem State.setGroup_window (s : State) (i : Fin 32) (g : Group) : (s.setGroup i g).window = s.window := rfl
@[simp] theorem State.setGroup_sweep (s : State) (i : Fin 32) (g : Group) : (s.setGroup i g).sweep = s.sweep := rfl
@[simp] theorem State.setGroup_egress (s : State) (i : Fin 32) (g : Group) : (s.setGroup i g).egress = s.egress := rfl
@[simp] theorem State.setGroup_tracker (s : State) (i : Fin 32) (g : Group) : (s.setGroup i g).tracker = s.tracker := rfl
@[simp] theorem State.setGroup_queue (s : State) (i : Fin 32) (g : Group) : (s.setGroup i g).queue = s.queue := rfl
@[simp] theorem State.setGroup_framer (s : State) (i : Fin 32) (g : Group) : (s.setGroup i g).framer = s.framer := rfl
@[simp] theorem State.setGroup_commands (s : State) (i : Fin 32) (g : Group) : (s.setGroup i g).commands = s.commands := rfl
@[simp] theorem State.setGroup_responses (s : State) (i : Fin 32) (g : Group) : (s.setGroup i g).responses = s.responses := rfl
@[simp] theorem State.setGroup_report (s : State) (i : Fin 32) (g : Group) : (s.setGroup i g).report = s.report := rfl
@[simp] theorem State.setGroup_heldOld (s : State) (i : Fin 32) (g : Group) : (s.setGroup i g).heldOld = s.heldOld := rfl
@[simp] theorem State.setGroup_heldNew (s : State) (i : Fin 32) (g : Group) : (s.setGroup i g).heldNew = s.heldNew := rfl
@[simp] theorem State.setGroup_sent (s : State) (i : Fin 32) (g : Group) : (s.setGroup i g).sent = s.sent := rfl
@[simp] theorem State.setGroup_pending (s : State) (i : Fin 32) (g : Group) : (s.setGroup i g).pending = s.pending := rfl

/-! `setBus` changes buses only. -/

@[simp] theorem State.setBus_links (s : State) (i : Fin 64) (b : Bus) : (s.setBus i b).links = s.links := rfl
@[simp] theorem State.setBus_clock (s : State) (i : Fin 64) (b : Bus) : (s.setBus i b).clock = s.clock := rfl
@[simp] theorem State.setBus_accept (s : State) (i : Fin 64) (b : Bus) : (s.setBus i b).accept = s.accept := rfl
@[simp] theorem State.setBus_ingress (s : State) (i : Fin 64) (b : Bus) : (s.setBus i b).ingress = s.ingress := rfl
@[simp] theorem State.setBus_chans (s : State) (i : Fin 64) (b : Bus) : (s.setBus i b).chans = s.chans := rfl
@[simp] theorem State.setBus_groups (s : State) (i : Fin 64) (b : Bus) : (s.setBus i b).groups = s.groups := rfl
@[simp] theorem State.setBus_matrix (s : State) (i : Fin 64) (b : Bus) : (s.setBus i b).matrix = s.matrix := rfl
@[simp] theorem State.setBus_window (s : State) (i : Fin 64) (b : Bus) : (s.setBus i b).window = s.window := rfl
@[simp] theorem State.setBus_sweep (s : State) (i : Fin 64) (b : Bus) : (s.setBus i b).sweep = s.sweep := rfl
@[simp] theorem State.setBus_egress (s : State) (i : Fin 64) (b : Bus) : (s.setBus i b).egress = s.egress := rfl
@[simp] theorem State.setBus_tracker (s : State) (i : Fin 64) (b : Bus) : (s.setBus i b).tracker = s.tracker := rfl
@[simp] theorem State.setBus_queue (s : State) (i : Fin 64) (b : Bus) : (s.setBus i b).queue = s.queue := rfl
@[simp] theorem State.setBus_framer (s : State) (i : Fin 64) (b : Bus) : (s.setBus i b).framer = s.framer := rfl
@[simp] theorem State.setBus_commands (s : State) (i : Fin 64) (b : Bus) : (s.setBus i b).commands = s.commands := rfl
@[simp] theorem State.setBus_responses (s : State) (i : Fin 64) (b : Bus) : (s.setBus i b).responses = s.responses := rfl
@[simp] theorem State.setBus_report (s : State) (i : Fin 64) (b : Bus) : (s.setBus i b).report = s.report := rfl
@[simp] theorem State.setBus_heldOld (s : State) (i : Fin 64) (b : Bus) : (s.setBus i b).heldOld = s.heldOld := rfl
@[simp] theorem State.setBus_heldNew (s : State) (i : Fin 64) (b : Bus) : (s.setBus i b).heldNew = s.heldNew := rfl
@[simp] theorem State.setBus_sent (s : State) (i : Fin 64) (b : Bus) : (s.setBus i b).sent = s.sent := rfl
@[simp] theorem State.setBus_pending (s : State) (i : Fin 64) (b : Bus) : (s.setBus i b).pending = s.pending := rfl

/-! `respond` changes responses only. -/

@[simp] theorem State.respond_links (s : State) (k t : Octet) (p : List Octet) : (s.respond k t p).links = s.links := rfl
@[simp] theorem State.respond_clock (s : State) (k t : Octet) (p : List Octet) : (s.respond k t p).clock = s.clock := rfl
@[simp] theorem State.respond_accept (s : State) (k t : Octet) (p : List Octet) : (s.respond k t p).accept = s.accept := rfl
@[simp] theorem State.respond_ingress (s : State) (k t : Octet) (p : List Octet) : (s.respond k t p).ingress = s.ingress := rfl
@[simp] theorem State.respond_chans (s : State) (k t : Octet) (p : List Octet) : (s.respond k t p).chans = s.chans := rfl
@[simp] theorem State.respond_groups (s : State) (k t : Octet) (p : List Octet) : (s.respond k t p).groups = s.groups := rfl
@[simp] theorem State.respond_buses (s : State) (k t : Octet) (p : List Octet) : (s.respond k t p).buses = s.buses := rfl
@[simp] theorem State.respond_matrix (s : State) (k t : Octet) (p : List Octet) : (s.respond k t p).matrix = s.matrix := rfl
@[simp] theorem State.respond_window (s : State) (k t : Octet) (p : List Octet) : (s.respond k t p).window = s.window := rfl
@[simp] theorem State.respond_sweep (s : State) (k t : Octet) (p : List Octet) : (s.respond k t p).sweep = s.sweep := rfl
@[simp] theorem State.respond_egress (s : State) (k t : Octet) (p : List Octet) : (s.respond k t p).egress = s.egress := rfl
@[simp] theorem State.respond_tracker (s : State) (k t : Octet) (p : List Octet) : (s.respond k t p).tracker = s.tracker := rfl
@[simp] theorem State.respond_queue (s : State) (k t : Octet) (p : List Octet) : (s.respond k t p).queue = s.queue := rfl
@[simp] theorem State.respond_framer (s : State) (k t : Octet) (p : List Octet) : (s.respond k t p).framer = s.framer := rfl
@[simp] theorem State.respond_commands (s : State) (k t : Octet) (p : List Octet) : (s.respond k t p).commands = s.commands := rfl
@[simp] theorem State.respond_report (s : State) (k t : Octet) (p : List Octet) : (s.respond k t p).report = s.report := rfl
@[simp] theorem State.respond_heldOld (s : State) (k t : Octet) (p : List Octet) : (s.respond k t p).heldOld = s.heldOld := rfl
@[simp] theorem State.respond_heldNew (s : State) (k t : Octet) (p : List Octet) : (s.respond k t p).heldNew = s.heldNew := rfl
@[simp] theorem State.respond_sent (s : State) (k t : Octet) (p : List Octet) : (s.respond k t p).sent = s.sent := rfl
@[simp] theorem State.respond_pending (s : State) (k t : Octet) (p : List Octet) : (s.respond k t p).pending = s.pending := rfl

/-! `writeXp` changes matrix, report only. -/

@[simp] theorem State.writeXp_links (s : State) (r : Fin 256) (c : Fin 64) (t : Int) (n : Fin 8) : (s.writeXp r c t n).links = s.links := rfl
@[simp] theorem State.writeXp_clock (s : State) (r : Fin 256) (c : Fin 64) (t : Int) (n : Fin 8) : (s.writeXp r c t n).clock = s.clock := rfl
@[simp] theorem State.writeXp_accept (s : State) (r : Fin 256) (c : Fin 64) (t : Int) (n : Fin 8) : (s.writeXp r c t n).accept = s.accept := rfl
@[simp] theorem State.writeXp_ingress (s : State) (r : Fin 256) (c : Fin 64) (t : Int) (n : Fin 8) : (s.writeXp r c t n).ingress = s.ingress := rfl
@[simp] theorem State.writeXp_chans (s : State) (r : Fin 256) (c : Fin 64) (t : Int) (n : Fin 8) : (s.writeXp r c t n).chans = s.chans := rfl
@[simp] theorem State.writeXp_groups (s : State) (r : Fin 256) (c : Fin 64) (t : Int) (n : Fin 8) : (s.writeXp r c t n).groups = s.groups := rfl
@[simp] theorem State.writeXp_buses (s : State) (r : Fin 256) (c : Fin 64) (t : Int) (n : Fin 8) : (s.writeXp r c t n).buses = s.buses := rfl
@[simp] theorem State.writeXp_window (s : State) (r : Fin 256) (c : Fin 64) (t : Int) (n : Fin 8) : (s.writeXp r c t n).window = s.window := rfl
@[simp] theorem State.writeXp_sweep (s : State) (r : Fin 256) (c : Fin 64) (t : Int) (n : Fin 8) : (s.writeXp r c t n).sweep = s.sweep := rfl
@[simp] theorem State.writeXp_egress (s : State) (r : Fin 256) (c : Fin 64) (t : Int) (n : Fin 8) : (s.writeXp r c t n).egress = s.egress := rfl
@[simp] theorem State.writeXp_tracker (s : State) (r : Fin 256) (c : Fin 64) (t : Int) (n : Fin 8) : (s.writeXp r c t n).tracker = s.tracker := rfl
@[simp] theorem State.writeXp_queue (s : State) (r : Fin 256) (c : Fin 64) (t : Int) (n : Fin 8) : (s.writeXp r c t n).queue = s.queue := rfl
@[simp] theorem State.writeXp_framer (s : State) (r : Fin 256) (c : Fin 64) (t : Int) (n : Fin 8) : (s.writeXp r c t n).framer = s.framer := rfl
@[simp] theorem State.writeXp_commands (s : State) (r : Fin 256) (c : Fin 64) (t : Int) (n : Fin 8) : (s.writeXp r c t n).commands = s.commands := rfl
@[simp] theorem State.writeXp_responses (s : State) (r : Fin 256) (c : Fin 64) (t : Int) (n : Fin 8) : (s.writeXp r c t n).responses = s.responses := rfl
@[simp] theorem State.writeXp_heldOld (s : State) (r : Fin 256) (c : Fin 64) (t : Int) (n : Fin 8) : (s.writeXp r c t n).heldOld = s.heldOld := rfl
@[simp] theorem State.writeXp_heldNew (s : State) (r : Fin 256) (c : Fin 64) (t : Int) (n : Fin 8) : (s.writeXp r c t n).heldNew = s.heldNew := rfl
@[simp] theorem State.writeXp_sent (s : State) (r : Fin 256) (c : Fin 64) (t : Int) (n : Fin 8) : (s.writeXp r c t n).sent = s.sent := rfl
@[simp] theorem State.writeXp_pending (s : State) (r : Fin 256) (c : Fin 64) (t : Int) (n : Fin 8) : (s.writeXp r c t n).pending = s.pending := rfl

/-! `reviewMutes` changes chans only. -/

@[simp] theorem State.reviewMutes_links (s : State) (g : Vector Window 16) (l : Vector Receiver 4) : (s.reviewMutes g l).links = s.links := by simp only [State.reviewMutes]
@[simp] theorem State.reviewMutes_clock (s : State) (g : Vector Window 16) (l : Vector Receiver 4) : (s.reviewMutes g l).clock = s.clock := by simp only [State.reviewMutes]
@[simp] theorem State.reviewMutes_accept (s : State) (g : Vector Window 16) (l : Vector Receiver 4) : (s.reviewMutes g l).accept = s.accept := by simp only [State.reviewMutes]
@[simp] theorem State.reviewMutes_ingress (s : State) (g : Vector Window 16) (l : Vector Receiver 4) : (s.reviewMutes g l).ingress = s.ingress := by simp only [State.reviewMutes]
@[simp] theorem State.reviewMutes_groups (s : State) (g : Vector Window 16) (l : Vector Receiver 4) : (s.reviewMutes g l).groups = s.groups := by simp only [State.reviewMutes]
@[simp] theorem State.reviewMutes_buses (s : State) (g : Vector Window 16) (l : Vector Receiver 4) : (s.reviewMutes g l).buses = s.buses := by simp only [State.reviewMutes]
@[simp] theorem State.reviewMutes_matrix (s : State) (g : Vector Window 16) (l : Vector Receiver 4) : (s.reviewMutes g l).matrix = s.matrix := by simp only [State.reviewMutes]
@[simp] theorem State.reviewMutes_window (s : State) (g : Vector Window 16) (l : Vector Receiver 4) : (s.reviewMutes g l).window = s.window := by simp only [State.reviewMutes]
@[simp] theorem State.reviewMutes_sweep (s : State) (g : Vector Window 16) (l : Vector Receiver 4) : (s.reviewMutes g l).sweep = s.sweep := by simp only [State.reviewMutes]
@[simp] theorem State.reviewMutes_egress (s : State) (g : Vector Window 16) (l : Vector Receiver 4) : (s.reviewMutes g l).egress = s.egress := by simp only [State.reviewMutes]
@[simp] theorem State.reviewMutes_tracker (s : State) (g : Vector Window 16) (l : Vector Receiver 4) : (s.reviewMutes g l).tracker = s.tracker := by simp only [State.reviewMutes]
@[simp] theorem State.reviewMutes_queue (s : State) (g : Vector Window 16) (l : Vector Receiver 4) : (s.reviewMutes g l).queue = s.queue := by simp only [State.reviewMutes]
@[simp] theorem State.reviewMutes_framer (s : State) (g : Vector Window 16) (l : Vector Receiver 4) : (s.reviewMutes g l).framer = s.framer := by simp only [State.reviewMutes]
@[simp] theorem State.reviewMutes_commands (s : State) (g : Vector Window 16) (l : Vector Receiver 4) : (s.reviewMutes g l).commands = s.commands := by simp only [State.reviewMutes]
@[simp] theorem State.reviewMutes_responses (s : State) (g : Vector Window 16) (l : Vector Receiver 4) : (s.reviewMutes g l).responses = s.responses := by simp only [State.reviewMutes]
@[simp] theorem State.reviewMutes_report (s : State) (g : Vector Window 16) (l : Vector Receiver 4) : (s.reviewMutes g l).report = s.report := by simp only [State.reviewMutes]
@[simp] theorem State.reviewMutes_heldOld (s : State) (g : Vector Window 16) (l : Vector Receiver 4) : (s.reviewMutes g l).heldOld = s.heldOld := by simp only [State.reviewMutes]
@[simp] theorem State.reviewMutes_heldNew (s : State) (g : Vector Window 16) (l : Vector Receiver 4) : (s.reviewMutes g l).heldNew = s.heldNew := by simp only [State.reviewMutes]
@[simp] theorem State.reviewMutes_sent (s : State) (g : Vector Window 16) (l : Vector Receiver 4) : (s.reviewMutes g l).sent = s.sent := by simp only [State.reviewMutes]
@[simp] theorem State.reviewMutes_pending (s : State) (g : Vector Window 16) (l : Vector Receiver 4) : (s.reviewMutes g l).pending = s.pending := by simp only [State.reviewMutes]

/-! `judgeLow` changes report only. -/

@[simp] theorem State.judgeLow_links (s : State) (n : Nat) : (s.judgeLow n).links = s.links := rfl
@[simp] theorem State.judgeLow_clock (s : State) (n : Nat) : (s.judgeLow n).clock = s.clock := rfl
@[simp] theorem State.judgeLow_accept (s : State) (n : Nat) : (s.judgeLow n).accept = s.accept := rfl
@[simp] theorem State.judgeLow_ingress (s : State) (n : Nat) : (s.judgeLow n).ingress = s.ingress := rfl
@[simp] theorem State.judgeLow_chans (s : State) (n : Nat) : (s.judgeLow n).chans = s.chans := rfl
@[simp] theorem State.judgeLow_groups (s : State) (n : Nat) : (s.judgeLow n).groups = s.groups := rfl
@[simp] theorem State.judgeLow_buses (s : State) (n : Nat) : (s.judgeLow n).buses = s.buses := rfl
@[simp] theorem State.judgeLow_matrix (s : State) (n : Nat) : (s.judgeLow n).matrix = s.matrix := rfl
@[simp] theorem State.judgeLow_window (s : State) (n : Nat) : (s.judgeLow n).window = s.window := rfl
@[simp] theorem State.judgeLow_sweep (s : State) (n : Nat) : (s.judgeLow n).sweep = s.sweep := rfl
@[simp] theorem State.judgeLow_egress (s : State) (n : Nat) : (s.judgeLow n).egress = s.egress := rfl
@[simp] theorem State.judgeLow_tracker (s : State) (n : Nat) : (s.judgeLow n).tracker = s.tracker := rfl
@[simp] theorem State.judgeLow_queue (s : State) (n : Nat) : (s.judgeLow n).queue = s.queue := rfl
@[simp] theorem State.judgeLow_framer (s : State) (n : Nat) : (s.judgeLow n).framer = s.framer := rfl
@[simp] theorem State.judgeLow_commands (s : State) (n : Nat) : (s.judgeLow n).commands = s.commands := rfl
@[simp] theorem State.judgeLow_responses (s : State) (n : Nat) : (s.judgeLow n).responses = s.responses := rfl
@[simp] theorem State.judgeLow_heldOld (s : State) (n : Nat) : (s.judgeLow n).heldOld = s.heldOld := rfl
@[simp] theorem State.judgeLow_heldNew (s : State) (n : Nat) : (s.judgeLow n).heldNew = s.heldNew := rfl
@[simp] theorem State.judgeLow_sent (s : State) (n : Nat) : (s.judgeLow n).sent = s.sent := rfl
@[simp] theorem State.judgeLow_pending (s : State) (n : Nat) : (s.judgeLow n).pending = s.pending := rfl

/-! `refuseEvent` changes report only. -/

@[simp] theorem State.refuseEvent_links (s : State) : (s.refuseEvent).links = s.links := rfl
@[simp] theorem State.refuseEvent_clock (s : State) : (s.refuseEvent).clock = s.clock := rfl
@[simp] theorem State.refuseEvent_accept (s : State) : (s.refuseEvent).accept = s.accept := rfl
@[simp] theorem State.refuseEvent_ingress (s : State) : (s.refuseEvent).ingress = s.ingress := rfl
@[simp] theorem State.refuseEvent_chans (s : State) : (s.refuseEvent).chans = s.chans := rfl
@[simp] theorem State.refuseEvent_groups (s : State) : (s.refuseEvent).groups = s.groups := rfl
@[simp] theorem State.refuseEvent_buses (s : State) : (s.refuseEvent).buses = s.buses := rfl
@[simp] theorem State.refuseEvent_matrix (s : State) : (s.refuseEvent).matrix = s.matrix := rfl
@[simp] theorem State.refuseEvent_window (s : State) : (s.refuseEvent).window = s.window := rfl
@[simp] theorem State.refuseEvent_sweep (s : State) : (s.refuseEvent).sweep = s.sweep := rfl
@[simp] theorem State.refuseEvent_egress (s : State) : (s.refuseEvent).egress = s.egress := rfl
@[simp] theorem State.refuseEvent_tracker (s : State) : (s.refuseEvent).tracker = s.tracker := rfl
@[simp] theorem State.refuseEvent_queue (s : State) : (s.refuseEvent).queue = s.queue := rfl
@[simp] theorem State.refuseEvent_framer (s : State) : (s.refuseEvent).framer = s.framer := rfl
@[simp] theorem State.refuseEvent_commands (s : State) : (s.refuseEvent).commands = s.commands := rfl
@[simp] theorem State.refuseEvent_responses (s : State) : (s.refuseEvent).responses = s.responses := rfl
@[simp] theorem State.refuseEvent_heldOld (s : State) : (s.refuseEvent).heldOld = s.heldOld := rfl
@[simp] theorem State.refuseEvent_heldNew (s : State) : (s.refuseEvent).heldNew = s.heldNew := rfl
@[simp] theorem State.refuseEvent_sent (s : State) : (s.refuseEvent).sent = s.sent := rfl
@[simp] theorem State.refuseEvent_pending (s : State) : (s.refuseEvent).pending = s.pending := rfl

/-! `punchRequest` changes egress, report only. -/

@[simp] theorem State.punchRequest_links (s : State) (i : Fin 128) (b : Bool) : (s.punchRequest i b).links = s.links := rfl
@[simp] theorem State.punchRequest_clock (s : State) (i : Fin 128) (b : Bool) : (s.punchRequest i b).clock = s.clock := rfl
@[simp] theorem State.punchRequest_accept (s : State) (i : Fin 128) (b : Bool) : (s.punchRequest i b).accept = s.accept := rfl
@[simp] theorem State.punchRequest_ingress (s : State) (i : Fin 128) (b : Bool) : (s.punchRequest i b).ingress = s.ingress := rfl
@[simp] theorem State.punchRequest_chans (s : State) (i : Fin 128) (b : Bool) : (s.punchRequest i b).chans = s.chans := rfl
@[simp] theorem State.punchRequest_groups (s : State) (i : Fin 128) (b : Bool) : (s.punchRequest i b).groups = s.groups := rfl
@[simp] theorem State.punchRequest_buses (s : State) (i : Fin 128) (b : Bool) : (s.punchRequest i b).buses = s.buses := rfl
@[simp] theorem State.punchRequest_matrix (s : State) (i : Fin 128) (b : Bool) : (s.punchRequest i b).matrix = s.matrix := rfl
@[simp] theorem State.punchRequest_window (s : State) (i : Fin 128) (b : Bool) : (s.punchRequest i b).window = s.window := rfl
@[simp] theorem State.punchRequest_sweep (s : State) (i : Fin 128) (b : Bool) : (s.punchRequest i b).sweep = s.sweep := rfl
@[simp] theorem State.punchRequest_tracker (s : State) (i : Fin 128) (b : Bool) : (s.punchRequest i b).tracker = s.tracker := rfl
@[simp] theorem State.punchRequest_queue (s : State) (i : Fin 128) (b : Bool) : (s.punchRequest i b).queue = s.queue := rfl
@[simp] theorem State.punchRequest_framer (s : State) (i : Fin 128) (b : Bool) : (s.punchRequest i b).framer = s.framer := rfl
@[simp] theorem State.punchRequest_commands (s : State) (i : Fin 128) (b : Bool) : (s.punchRequest i b).commands = s.commands := rfl
@[simp] theorem State.punchRequest_responses (s : State) (i : Fin 128) (b : Bool) : (s.punchRequest i b).responses = s.responses := rfl
@[simp] theorem State.punchRequest_heldOld (s : State) (i : Fin 128) (b : Bool) : (s.punchRequest i b).heldOld = s.heldOld := rfl
@[simp] theorem State.punchRequest_heldNew (s : State) (i : Fin 128) (b : Bool) : (s.punchRequest i b).heldNew = s.heldNew := rfl
@[simp] theorem State.punchRequest_sent (s : State) (i : Fin 128) (b : Bool) : (s.punchRequest i b).sent = s.sent := rfl
@[simp] theorem State.punchRequest_pending (s : State) (i : Fin 128) (b : Bool) : (s.punchRequest i b).pending = s.pending := rfl

/-! `advanceSlot` changes egress, report only. -/

@[simp] theorem State.advanceSlot_links (s : State) (i : Fin 128) : (s.advanceSlot i).links = s.links := rfl
@[simp] theorem State.advanceSlot_clock (s : State) (i : Fin 128) : (s.advanceSlot i).clock = s.clock := rfl
@[simp] theorem State.advanceSlot_accept (s : State) (i : Fin 128) : (s.advanceSlot i).accept = s.accept := rfl
@[simp] theorem State.advanceSlot_ingress (s : State) (i : Fin 128) : (s.advanceSlot i).ingress = s.ingress := rfl
@[simp] theorem State.advanceSlot_chans (s : State) (i : Fin 128) : (s.advanceSlot i).chans = s.chans := rfl
@[simp] theorem State.advanceSlot_groups (s : State) (i : Fin 128) : (s.advanceSlot i).groups = s.groups := rfl
@[simp] theorem State.advanceSlot_buses (s : State) (i : Fin 128) : (s.advanceSlot i).buses = s.buses := rfl
@[simp] theorem State.advanceSlot_matrix (s : State) (i : Fin 128) : (s.advanceSlot i).matrix = s.matrix := rfl
@[simp] theorem State.advanceSlot_window (s : State) (i : Fin 128) : (s.advanceSlot i).window = s.window := rfl
@[simp] theorem State.advanceSlot_sweep (s : State) (i : Fin 128) : (s.advanceSlot i).sweep = s.sweep := rfl
@[simp] theorem State.advanceSlot_tracker (s : State) (i : Fin 128) : (s.advanceSlot i).tracker = s.tracker := rfl
@[simp] theorem State.advanceSlot_queue (s : State) (i : Fin 128) : (s.advanceSlot i).queue = s.queue := rfl
@[simp] theorem State.advanceSlot_framer (s : State) (i : Fin 128) : (s.advanceSlot i).framer = s.framer := rfl
@[simp] theorem State.advanceSlot_commands (s : State) (i : Fin 128) : (s.advanceSlot i).commands = s.commands := rfl
@[simp] theorem State.advanceSlot_responses (s : State) (i : Fin 128) : (s.advanceSlot i).responses = s.responses := rfl
@[simp] theorem State.advanceSlot_heldOld (s : State) (i : Fin 128) : (s.advanceSlot i).heldOld = s.heldOld := rfl
@[simp] theorem State.advanceSlot_heldNew (s : State) (i : Fin 128) : (s.advanceSlot i).heldNew = s.heldNew := rfl
@[simp] theorem State.advanceSlot_sent (s : State) (i : Fin 128) : (s.advanceSlot i).sent = s.sent := rfl
@[simp] theorem State.advanceSlot_pending (s : State) (i : Fin 128) : (s.advanceSlot i).pending = s.pending := rfl

/-! `flush` changes queue, report only. -/

@[simp] theorem State.flush_links (s : State) : (s.flush).links = s.links := rfl
@[simp] theorem State.flush_clock (s : State) : (s.flush).clock = s.clock := rfl
@[simp] theorem State.flush_accept (s : State) : (s.flush).accept = s.accept := rfl
@[simp] theorem State.flush_ingress (s : State) : (s.flush).ingress = s.ingress := rfl
@[simp] theorem State.flush_chans (s : State) : (s.flush).chans = s.chans := rfl
@[simp] theorem State.flush_groups (s : State) : (s.flush).groups = s.groups := rfl
@[simp] theorem State.flush_buses (s : State) : (s.flush).buses = s.buses := rfl
@[simp] theorem State.flush_matrix (s : State) : (s.flush).matrix = s.matrix := rfl
@[simp] theorem State.flush_window (s : State) : (s.flush).window = s.window := rfl
@[simp] theorem State.flush_sweep (s : State) : (s.flush).sweep = s.sweep := rfl
@[simp] theorem State.flush_egress (s : State) : (s.flush).egress = s.egress := rfl
@[simp] theorem State.flush_tracker (s : State) : (s.flush).tracker = s.tracker := rfl
@[simp] theorem State.flush_framer (s : State) : (s.flush).framer = s.framer := rfl
@[simp] theorem State.flush_commands (s : State) : (s.flush).commands = s.commands := rfl
@[simp] theorem State.flush_responses (s : State) : (s.flush).responses = s.responses := rfl
@[simp] theorem State.flush_heldOld (s : State) : (s.flush).heldOld = s.heldOld := rfl
@[simp] theorem State.flush_heldNew (s : State) : (s.flush).heldNew = s.heldNew := rfl
@[simp] theorem State.flush_sent (s : State) : (s.flush).sent = s.sent := rfl
@[simp] theorem State.flush_pending (s : State) : (s.flush).pending = s.pending := rfl

/-! `lock` changes clock, report only. -/

@[simp] theorem State.lock_links (s : State) (b : Bool) : (s.lock b).links = s.links := rfl
@[simp] theorem State.lock_accept (s : State) (b : Bool) : (s.lock b).accept = s.accept := rfl
@[simp] theorem State.lock_ingress (s : State) (b : Bool) : (s.lock b).ingress = s.ingress := rfl
@[simp] theorem State.lock_chans (s : State) (b : Bool) : (s.lock b).chans = s.chans := rfl
@[simp] theorem State.lock_groups (s : State) (b : Bool) : (s.lock b).groups = s.groups := rfl
@[simp] theorem State.lock_buses (s : State) (b : Bool) : (s.lock b).buses = s.buses := rfl
@[simp] theorem State.lock_matrix (s : State) (b : Bool) : (s.lock b).matrix = s.matrix := rfl
@[simp] theorem State.lock_window (s : State) (b : Bool) : (s.lock b).window = s.window := rfl
@[simp] theorem State.lock_sweep (s : State) (b : Bool) : (s.lock b).sweep = s.sweep := rfl
@[simp] theorem State.lock_egress (s : State) (b : Bool) : (s.lock b).egress = s.egress := rfl
@[simp] theorem State.lock_tracker (s : State) (b : Bool) : (s.lock b).tracker = s.tracker := rfl
@[simp] theorem State.lock_queue (s : State) (b : Bool) : (s.lock b).queue = s.queue := rfl
@[simp] theorem State.lock_framer (s : State) (b : Bool) : (s.lock b).framer = s.framer := rfl
@[simp] theorem State.lock_commands (s : State) (b : Bool) : (s.lock b).commands = s.commands := rfl
@[simp] theorem State.lock_responses (s : State) (b : Bool) : (s.lock b).responses = s.responses := rfl
@[simp] theorem State.lock_heldOld (s : State) (b : Bool) : (s.lock b).heldOld = s.heldOld := rfl
@[simp] theorem State.lock_heldNew (s : State) (b : Bool) : (s.lock b).heldNew = s.heldNew := rfl
@[simp] theorem State.lock_sent (s : State) (b : Bool) : (s.lock b).sent = s.sent := rfl
@[simp] theorem State.lock_pending (s : State) (b : Bool) : (s.lock b).pending = s.pending := rfl

/-! `unlock` changes clock, tracker, report only. -/

@[simp] theorem State.unlock_links (s : State) : (s.unlock).links = s.links := rfl
@[simp] theorem State.unlock_accept (s : State) : (s.unlock).accept = s.accept := rfl
@[simp] theorem State.unlock_ingress (s : State) : (s.unlock).ingress = s.ingress := rfl
@[simp] theorem State.unlock_chans (s : State) : (s.unlock).chans = s.chans := rfl
@[simp] theorem State.unlock_groups (s : State) : (s.unlock).groups = s.groups := rfl
@[simp] theorem State.unlock_buses (s : State) : (s.unlock).buses = s.buses := rfl
@[simp] theorem State.unlock_matrix (s : State) : (s.unlock).matrix = s.matrix := rfl
@[simp] theorem State.unlock_window (s : State) : (s.unlock).window = s.window := rfl
@[simp] theorem State.unlock_sweep (s : State) : (s.unlock).sweep = s.sweep := rfl
@[simp] theorem State.unlock_egress (s : State) : (s.unlock).egress = s.egress := rfl
@[simp] theorem State.unlock_queue (s : State) : (s.unlock).queue = s.queue := rfl
@[simp] theorem State.unlock_framer (s : State) : (s.unlock).framer = s.framer := rfl
@[simp] theorem State.unlock_commands (s : State) : (s.unlock).commands = s.commands := rfl
@[simp] theorem State.unlock_responses (s : State) : (s.unlock).responses = s.responses := rfl
@[simp] theorem State.unlock_heldOld (s : State) : (s.unlock).heldOld = s.heldOld := rfl
@[simp] theorem State.unlock_heldNew (s : State) : (s.unlock).heldNew = s.heldNew := rfl
@[simp] theorem State.unlock_sent (s : State) : (s.unlock).sent = s.sent := rfl
@[simp] theorem State.unlock_pending (s : State) : (s.unlock).pending = s.pending := rfl

/-! `joinBuffer` changes links, report only. -/

@[simp] theorem State.joinBuffer_clock (s : State) (l : Link) (f : BufFrame) : (s.joinBuffer l f).clock = s.clock := rfl
@[simp] theorem State.joinBuffer_accept (s : State) (l : Link) (f : BufFrame) : (s.joinBuffer l f).accept = s.accept := rfl
@[simp] theorem State.joinBuffer_ingress (s : State) (l : Link) (f : BufFrame) : (s.joinBuffer l f).ingress = s.ingress := rfl
@[simp] theorem State.joinBuffer_chans (s : State) (l : Link) (f : BufFrame) : (s.joinBuffer l f).chans = s.chans := rfl
@[simp] theorem State.joinBuffer_groups (s : State) (l : Link) (f : BufFrame) : (s.joinBuffer l f).groups = s.groups := rfl
@[simp] theorem State.joinBuffer_buses (s : State) (l : Link) (f : BufFrame) : (s.joinBuffer l f).buses = s.buses := rfl
@[simp] theorem State.joinBuffer_matrix (s : State) (l : Link) (f : BufFrame) : (s.joinBuffer l f).matrix = s.matrix := rfl
@[simp] theorem State.joinBuffer_window (s : State) (l : Link) (f : BufFrame) : (s.joinBuffer l f).window = s.window := rfl
@[simp] theorem State.joinBuffer_sweep (s : State) (l : Link) (f : BufFrame) : (s.joinBuffer l f).sweep = s.sweep := rfl
@[simp] theorem State.joinBuffer_egress (s : State) (l : Link) (f : BufFrame) : (s.joinBuffer l f).egress = s.egress := rfl
@[simp] theorem State.joinBuffer_tracker (s : State) (l : Link) (f : BufFrame) : (s.joinBuffer l f).tracker = s.tracker := rfl
@[simp] theorem State.joinBuffer_queue (s : State) (l : Link) (f : BufFrame) : (s.joinBuffer l f).queue = s.queue := rfl
@[simp] theorem State.joinBuffer_framer (s : State) (l : Link) (f : BufFrame) : (s.joinBuffer l f).framer = s.framer := rfl
@[simp] theorem State.joinBuffer_commands (s : State) (l : Link) (f : BufFrame) : (s.joinBuffer l f).commands = s.commands := rfl
@[simp] theorem State.joinBuffer_responses (s : State) (l : Link) (f : BufFrame) : (s.joinBuffer l f).responses = s.responses := rfl
@[simp] theorem State.joinBuffer_heldOld (s : State) (l : Link) (f : BufFrame) : (s.joinBuffer l f).heldOld = s.heldOld := rfl
@[simp] theorem State.joinBuffer_heldNew (s : State) (l : Link) (f : BufFrame) : (s.joinBuffer l f).heldNew = s.heldNew := rfl
@[simp] theorem State.joinBuffer_sent (s : State) (l : Link) (f : BufFrame) : (s.joinBuffer l f).sent = s.sent := rfl
@[simp] theorem State.joinBuffer_pending (s : State) (l : Link) (f : BufFrame) : (s.joinBuffer l f).pending = s.pending := rfl

/-! `takeBuffer` changes links, report only. -/

@[simp] theorem State.takeBuffer_clock (s : State) (l : Link) : (s.takeBuffer l).clock = s.clock := rfl
@[simp] theorem State.takeBuffer_accept (s : State) (l : Link) : (s.takeBuffer l).accept = s.accept := rfl
@[simp] theorem State.takeBuffer_ingress (s : State) (l : Link) : (s.takeBuffer l).ingress = s.ingress := rfl
@[simp] theorem State.takeBuffer_chans (s : State) (l : Link) : (s.takeBuffer l).chans = s.chans := rfl
@[simp] theorem State.takeBuffer_groups (s : State) (l : Link) : (s.takeBuffer l).groups = s.groups := rfl
@[simp] theorem State.takeBuffer_buses (s : State) (l : Link) : (s.takeBuffer l).buses = s.buses := rfl
@[simp] theorem State.takeBuffer_matrix (s : State) (l : Link) : (s.takeBuffer l).matrix = s.matrix := rfl
@[simp] theorem State.takeBuffer_window (s : State) (l : Link) : (s.takeBuffer l).window = s.window := rfl
@[simp] theorem State.takeBuffer_sweep (s : State) (l : Link) : (s.takeBuffer l).sweep = s.sweep := rfl
@[simp] theorem State.takeBuffer_egress (s : State) (l : Link) : (s.takeBuffer l).egress = s.egress := rfl
@[simp] theorem State.takeBuffer_tracker (s : State) (l : Link) : (s.takeBuffer l).tracker = s.tracker := rfl
@[simp] theorem State.takeBuffer_queue (s : State) (l : Link) : (s.takeBuffer l).queue = s.queue := rfl
@[simp] theorem State.takeBuffer_framer (s : State) (l : Link) : (s.takeBuffer l).framer = s.framer := rfl
@[simp] theorem State.takeBuffer_commands (s : State) (l : Link) : (s.takeBuffer l).commands = s.commands := rfl
@[simp] theorem State.takeBuffer_responses (s : State) (l : Link) : (s.takeBuffer l).responses = s.responses := rfl
@[simp] theorem State.takeBuffer_heldOld (s : State) (l : Link) : (s.takeBuffer l).heldOld = s.heldOld := rfl
@[simp] theorem State.takeBuffer_heldNew (s : State) (l : Link) : (s.takeBuffer l).heldNew = s.heldNew := rfl
@[simp] theorem State.takeBuffer_sent (s : State) (l : Link) : (s.takeBuffer l).sent = s.sent := rfl
@[simp] theorem State.takeBuffer_pending (s : State) (l : Link) : (s.takeBuffer l).pending = s.pending := rfl

/-! `takeBuffers` changes links, report only. -/

@[simp] theorem State.takeBuffers_clock (s : State) : (s.takeBuffers).clock = s.clock := rfl
@[simp] theorem State.takeBuffers_accept (s : State) : (s.takeBuffers).accept = s.accept := rfl
@[simp] theorem State.takeBuffers_ingress (s : State) : (s.takeBuffers).ingress = s.ingress := rfl
@[simp] theorem State.takeBuffers_chans (s : State) : (s.takeBuffers).chans = s.chans := rfl
@[simp] theorem State.takeBuffers_groups (s : State) : (s.takeBuffers).groups = s.groups := rfl
@[simp] theorem State.takeBuffers_buses (s : State) : (s.takeBuffers).buses = s.buses := rfl
@[simp] theorem State.takeBuffers_matrix (s : State) : (s.takeBuffers).matrix = s.matrix := rfl
@[simp] theorem State.takeBuffers_window (s : State) : (s.takeBuffers).window = s.window := rfl
@[simp] theorem State.takeBuffers_sweep (s : State) : (s.takeBuffers).sweep = s.sweep := rfl
@[simp] theorem State.takeBuffers_egress (s : State) : (s.takeBuffers).egress = s.egress := rfl
@[simp] theorem State.takeBuffers_tracker (s : State) : (s.takeBuffers).tracker = s.tracker := rfl
@[simp] theorem State.takeBuffers_queue (s : State) : (s.takeBuffers).queue = s.queue := rfl
@[simp] theorem State.takeBuffers_framer (s : State) : (s.takeBuffers).framer = s.framer := rfl
@[simp] theorem State.takeBuffers_commands (s : State) : (s.takeBuffers).commands = s.commands := rfl
@[simp] theorem State.takeBuffers_responses (s : State) : (s.takeBuffers).responses = s.responses := rfl
@[simp] theorem State.takeBuffers_heldOld (s : State) : (s.takeBuffers).heldOld = s.heldOld := rfl
@[simp] theorem State.takeBuffers_heldNew (s : State) : (s.takeBuffers).heldNew = s.heldNew := rfl
@[simp] theorem State.takeBuffers_sent (s : State) : (s.takeBuffers).sent = s.sent := rfl
@[simp] theorem State.takeBuffers_pending (s : State) : (s.takeBuffers).pending = s.pending := rfl

/-! `advanceRamps` changes chans, groups, buses, matrix only. -/

@[simp] theorem State.advanceRamps_links (s : State) : (s.advanceRamps).links = s.links := rfl
@[simp] theorem State.advanceRamps_clock (s : State) : (s.advanceRamps).clock = s.clock := rfl
@[simp] theorem State.advanceRamps_accept (s : State) : (s.advanceRamps).accept = s.accept := rfl
@[simp] theorem State.advanceRamps_ingress (s : State) : (s.advanceRamps).ingress = s.ingress := rfl
@[simp] theorem State.advanceRamps_window (s : State) : (s.advanceRamps).window = s.window := rfl
@[simp] theorem State.advanceRamps_sweep (s : State) : (s.advanceRamps).sweep = s.sweep := rfl
@[simp] theorem State.advanceRamps_egress (s : State) : (s.advanceRamps).egress = s.egress := rfl
@[simp] theorem State.advanceRamps_tracker (s : State) : (s.advanceRamps).tracker = s.tracker := rfl
@[simp] theorem State.advanceRamps_queue (s : State) : (s.advanceRamps).queue = s.queue := rfl
@[simp] theorem State.advanceRamps_framer (s : State) : (s.advanceRamps).framer = s.framer := rfl
@[simp] theorem State.advanceRamps_commands (s : State) : (s.advanceRamps).commands = s.commands := rfl
@[simp] theorem State.advanceRamps_responses (s : State) : (s.advanceRamps).responses = s.responses := rfl
@[simp] theorem State.advanceRamps_report (s : State) : (s.advanceRamps).report = s.report := rfl
@[simp] theorem State.advanceRamps_heldOld (s : State) : (s.advanceRamps).heldOld = s.heldOld := rfl
@[simp] theorem State.advanceRamps_heldNew (s : State) : (s.advanceRamps).heldNew = s.heldNew := rfl
@[simp] theorem State.advanceRamps_sent (s : State) : (s.advanceRamps).sent = s.sent := rfl
@[simp] theorem State.advanceRamps_pending (s : State) : (s.advanceRamps).pending = s.pending := rfl

/-! `holdResults` changes heldOld, heldNew only. -/

@[simp] theorem State.holdResults_links (s : State) (x y : Samples) : (s.holdResults x y).links = s.links := rfl
@[simp] theorem State.holdResults_clock (s : State) (x y : Samples) : (s.holdResults x y).clock = s.clock := rfl
@[simp] theorem State.holdResults_accept (s : State) (x y : Samples) : (s.holdResults x y).accept = s.accept := rfl
@[simp] theorem State.holdResults_ingress (s : State) (x y : Samples) : (s.holdResults x y).ingress = s.ingress := rfl
@[simp] theorem State.holdResults_chans (s : State) (x y : Samples) : (s.holdResults x y).chans = s.chans := rfl
@[simp] theorem State.holdResults_groups (s : State) (x y : Samples) : (s.holdResults x y).groups = s.groups := rfl
@[simp] theorem State.holdResults_buses (s : State) (x y : Samples) : (s.holdResults x y).buses = s.buses := rfl
@[simp] theorem State.holdResults_matrix (s : State) (x y : Samples) : (s.holdResults x y).matrix = s.matrix := rfl
@[simp] theorem State.holdResults_window (s : State) (x y : Samples) : (s.holdResults x y).window = s.window := rfl
@[simp] theorem State.holdResults_sweep (s : State) (x y : Samples) : (s.holdResults x y).sweep = s.sweep := rfl
@[simp] theorem State.holdResults_egress (s : State) (x y : Samples) : (s.holdResults x y).egress = s.egress := rfl
@[simp] theorem State.holdResults_tracker (s : State) (x y : Samples) : (s.holdResults x y).tracker = s.tracker := rfl
@[simp] theorem State.holdResults_queue (s : State) (x y : Samples) : (s.holdResults x y).queue = s.queue := rfl
@[simp] theorem State.holdResults_framer (s : State) (x y : Samples) : (s.holdResults x y).framer = s.framer := rfl
@[simp] theorem State.holdResults_commands (s : State) (x y : Samples) : (s.holdResults x y).commands = s.commands := rfl
@[simp] theorem State.holdResults_responses (s : State) (x y : Samples) : (s.holdResults x y).responses = s.responses := rfl
@[simp] theorem State.holdResults_report (s : State) (x y : Samples) : (s.holdResults x y).report = s.report := rfl
@[simp] theorem State.holdResults_sent (s : State) (x y : Samples) : (s.holdResults x y).sent = s.sent := rfl
@[simp] theorem State.holdResults_pending (s : State) (x y : Samples) : (s.holdResults x y).pending = s.pending := rfl

/-! `compose` changes sent, responses, report only. -/

@[simp] theorem State.compose_links (s : State) : (s.compose).links = s.links := rfl
@[simp] theorem State.compose_clock (s : State) : (s.compose).clock = s.clock := rfl
@[simp] theorem State.compose_accept (s : State) : (s.compose).accept = s.accept := rfl
@[simp] theorem State.compose_ingress (s : State) : (s.compose).ingress = s.ingress := rfl
@[simp] theorem State.compose_chans (s : State) : (s.compose).chans = s.chans := rfl
@[simp] theorem State.compose_groups (s : State) : (s.compose).groups = s.groups := rfl
@[simp] theorem State.compose_buses (s : State) : (s.compose).buses = s.buses := rfl
@[simp] theorem State.compose_matrix (s : State) : (s.compose).matrix = s.matrix := rfl
@[simp] theorem State.compose_window (s : State) : (s.compose).window = s.window := rfl
@[simp] theorem State.compose_sweep (s : State) : (s.compose).sweep = s.sweep := rfl
@[simp] theorem State.compose_egress (s : State) : (s.compose).egress = s.egress := rfl
@[simp] theorem State.compose_tracker (s : State) : (s.compose).tracker = s.tracker := rfl
@[simp] theorem State.compose_queue (s : State) : (s.compose).queue = s.queue := rfl
@[simp] theorem State.compose_framer (s : State) : (s.compose).framer = s.framer := rfl
@[simp] theorem State.compose_commands (s : State) : (s.compose).commands = s.commands := rfl
@[simp] theorem State.compose_heldOld (s : State) : (s.compose).heldOld = s.heldOld := rfl
@[simp] theorem State.compose_heldNew (s : State) : (s.compose).heldNew = s.heldNew := rfl
@[simp] theorem State.compose_pending (s : State) : (s.compose).pending = s.pending := rfl

/-! `stepWindow` changes window only. -/

@[simp] theorem State.stepWindow_links (s : State) : (s.stepWindow).links = s.links := rfl
@[simp] theorem State.stepWindow_clock (s : State) : (s.stepWindow).clock = s.clock := rfl
@[simp] theorem State.stepWindow_accept (s : State) : (s.stepWindow).accept = s.accept := rfl
@[simp] theorem State.stepWindow_ingress (s : State) : (s.stepWindow).ingress = s.ingress := rfl
@[simp] theorem State.stepWindow_chans (s : State) : (s.stepWindow).chans = s.chans := rfl
@[simp] theorem State.stepWindow_groups (s : State) : (s.stepWindow).groups = s.groups := rfl
@[simp] theorem State.stepWindow_buses (s : State) : (s.stepWindow).buses = s.buses := rfl
@[simp] theorem State.stepWindow_matrix (s : State) : (s.stepWindow).matrix = s.matrix := rfl
@[simp] theorem State.stepWindow_sweep (s : State) : (s.stepWindow).sweep = s.sweep := rfl
@[simp] theorem State.stepWindow_egress (s : State) : (s.stepWindow).egress = s.egress := rfl
@[simp] theorem State.stepWindow_tracker (s : State) : (s.stepWindow).tracker = s.tracker := rfl
@[simp] theorem State.stepWindow_queue (s : State) : (s.stepWindow).queue = s.queue := rfl
@[simp] theorem State.stepWindow_framer (s : State) : (s.stepWindow).framer = s.framer := rfl
@[simp] theorem State.stepWindow_commands (s : State) : (s.stepWindow).commands = s.commands := rfl
@[simp] theorem State.stepWindow_responses (s : State) : (s.stepWindow).responses = s.responses := rfl
@[simp] theorem State.stepWindow_report (s : State) : (s.stepWindow).report = s.report := rfl
@[simp] theorem State.stepWindow_heldOld (s : State) : (s.stepWindow).heldOld = s.heldOld := rfl
@[simp] theorem State.stepWindow_heldNew (s : State) : (s.stepWindow).heldNew = s.heldNew := rfl
@[simp] theorem State.stepWindow_sent (s : State) : (s.stepWindow).sent = s.sent := rfl
@[simp] theorem State.stepWindow_pending (s : State) : (s.stepWindow).pending = s.pending := rfl

/-! `engineReset` changes chans, groups, buses, matrix, window, sweep, egress, queue, report only. -/

@[simp] theorem State.engineReset_links (s : State) : (s.engineReset).links = s.links := by simp only [State.engineReset]
@[simp] theorem State.engineReset_clock (s : State) : (s.engineReset).clock = s.clock := by simp only [State.engineReset]
@[simp] theorem State.engineReset_accept (s : State) : (s.engineReset).accept = s.accept := by simp only [State.engineReset]
@[simp] theorem State.engineReset_ingress (s : State) : (s.engineReset).ingress = s.ingress := by simp only [State.engineReset]
@[simp] theorem State.engineReset_tracker (s : State) : (s.engineReset).tracker = s.tracker := by simp only [State.engineReset]
@[simp] theorem State.engineReset_framer (s : State) : (s.engineReset).framer = s.framer := by simp only [State.engineReset]
@[simp] theorem State.engineReset_commands (s : State) : (s.engineReset).commands = s.commands := by simp only [State.engineReset]
@[simp] theorem State.engineReset_responses (s : State) : (s.engineReset).responses = s.responses := by simp only [State.engineReset]
@[simp] theorem State.engineReset_heldOld (s : State) : (s.engineReset).heldOld = s.heldOld := by simp only [State.engineReset]
@[simp] theorem State.engineReset_heldNew (s : State) : (s.engineReset).heldNew = s.heldNew := by simp only [State.engineReset]
@[simp] theorem State.engineReset_sent (s : State) : (s.engineReset).sent = s.sent := by simp only [State.engineReset]
@[simp] theorem State.engineReset_pending (s : State) : (s.engineReset).pending = s.pending := by simp only [State.engineReset]

/-! The links one by one. -/

theorem linkIdx_inj {l m : Link} (h : linkIdx l = linkIdx m) : l = m := by
  cases l <;> cases m <;> first | rfl | exact absurd h (by decide)

@[simp] theorem State.setLink_link (s : State) (l : Link) (r : Receiver) : (s.setLink l r).link l = r := by
  simp [State.link, State.setLink]

theorem State.setLink_link_ne (s : State) {l m : Link} (r : Receiver) (h : l ≠ m) :
    (s.setLink l r).link m = s.link m := by
  have hv : (linkIdx l).val ≠ (linkIdx m).val := fun e => h (linkIdx_inj (Fin.ext e))
  simp [State.link, State.setLink, hv]

@[simp] theorem State.setItem_link (s : State) (i : Item) (l : Link) : (s.setItem i).link l = s.link l := rfl

@[simp] theorem State.addCount_link (s : State) (n : Fin 84) (l : Link) : (s.addCount n).link l = s.link l := rfl

/-! Elements of the vectors the model maps over. -/

@[simp] theorem mapAll_getElem {α β : Type} {n : Nat} (f : α → β) (v : Vector α n) (i : Nat) (h : i < n) :
    (mapAll f v)[i] = f v[i] := by simp [mapAll]

@[simp] theorem State.reviewMutes_getElem (s : State) (g : Vector Window 16) (l : Vector Receiver 4) (i : Fin 192) :
    (s.reviewMutes g l).chans[i] = s.chans[i].linkMuteChange (linkMuted g l i) (s.muted i) := by
  simp [State.reviewMutes]

end Sys2Proof.Machine
end

