-- ==== Sys2Proof/Laws/Matrix.lean ====
section
/-! SUPPORT. Crosspoints, pool entries and the pending list: what each named operation does to the cells, the entries and the
order of the pool. -/

namespace Sys2Proof.Machine

/-! ### Cells -/

@[simp] theorem Matrix.setCell_pool (m : Matrix) (r : Fin 256) (c : Fin 64) (x : Xp) : (m.setCell r c x).pool = m.pool := rfl

@[simp] theorem Matrix.setCell_waiting (m : Matrix) (r : Fin 256) (c : Fin 64) (x : Xp) :
    (m.setCell r c x).waiting = m.waiting := rfl

@[simp] theorem Matrix.putEntry_waiting (m : Matrix) (e : PoolEntry) : (m.putEntry e).waiting = m.waiting := rfl

@[simp] theorem Matrix.dropEntry_waiting (m : Matrix) (r : Fin 256) (c : Fin 64) : (m.dropEntry r c).waiting = m.waiting := rfl

@[simp] theorem Matrix.putEntry_cell (m : Matrix) (e : PoolEntry) (r : Fin 256) (c : Fin 64) :
    (m.putEntry e).cell r c = m.cell r c := rfl

@[simp] theorem Matrix.dropEntry_cell (m : Matrix) (r r' : Fin 256) (c c' : Fin 64) :
    (m.dropEntry r c).cell r' c' = m.cell r' c' := rfl

@[simp] theorem Matrix.setCell_entry (m : Matrix) (r r' : Fin 256) (c c' : Fin 64) (x : Xp) :
    (m.setCell r c x).entry r' c' = m.entry r' c' := rfl

/-- A cell read after a write of a cell. -/
theorem Matrix.setCell_cell (m : Matrix) (r r' : Fin 256) (c c' : Fin 64) (x : Xp) :
    (m.setCell r c x).cell r' c' = if r' = r ∧ c' = c then x else m.cell r' c' := by
  unfold Matrix.setCell Matrix.cell
  by_cases hr : r' = r
  · subst hr
    by_cases hc : c' = c
    · subst hc
      simp
    · have h2 : ¬c.val = c'.val := fun e => hc (Fin.ext e.symm)
      simp [hc, h2]
  · have h2 : ¬r.val = r'.val := fun e => hr (Fin.ext e.symm)
    simp [hr, h2]

@[simp] theorem Matrix.setCell_cell_self (m : Matrix) (r : Fin 256) (c : Fin 64) (x : Xp) :
    (m.setCell r c x).cell r c = x := by simp [Matrix.setCell_cell]

/-! ### The pool -/

theorem xpKey_inj {r r' : Fin 256} {c c' : Fin 64} (h : xpKey r c = xpKey r' c') : r = r' ∧ c = c' := by
  unfold xpKey at h
  constructor <;> apply Fin.ext <;> omega

theorem PoolEntry.isAt_iff (e : PoolEntry) (r : Fin 256) (c : Fin 64) : e.isAt r c = true ↔ e.row = r ∧ e.col = c := by
  simp [PoolEntry.isAt]

theorem Waiting.isAt_iff (w : Waiting) (r : Fin 256) (c : Fin 64) : w.isAt r c = true ↔ w.row = r ∧ w.col = c := by
  simp [Waiting.isAt]

/-- The order of the pool (R70: a set, held in row-major order). -/
def poolSorted (l : List PoolEntry) : Prop := l.Pairwise fun e f => xpKey e.row e.col < xpKey f.row f.col

/-- An inserted entry is in the pool, and nothing else comes into it. -/
theorem mem_insertEntry (e x : PoolEntry) (l : List PoolEntry) (h : x ∈ insertEntry e l) : x = e ∨ x ∈ l := by
  induction l with
  | nil => simpa [insertEntry] using h
  | cons f rest ih =>
    unfold insertEntry at h
    split at h
    · rcases List.mem_cons.1 h with h | h
      · exact .inr (by simp [h])
      · rcases ih h with h | h
        · exact .inl h
        · exact .inr (List.mem_cons_of_mem _ h)
    · split at h
      · rcases List.mem_cons.1 h with h | h
        · exact .inl h
        · exact .inr (List.mem_cons_of_mem _ h)
      · rcases List.mem_cons.1 h with h | h
        · exact .inl h
        · exact .inr h

theorem insertEntry_mem (e : PoolEntry) (l : List PoolEntry) : e ∈ insertEntry e l := by
  induction l with
  | nil => simp [insertEntry]
  | cons f rest ih =>
    unfold insertEntry
    split
    · exact List.mem_cons_of_mem _ ih
    · split <;> simp

/-- The pool keeps its order when an entry goes in. -/
theorem insertEntry_sorted (e : PoolEntry) (l : List PoolEntry) (h : poolSorted l) : poolSorted (insertEntry e l) := by
  induction l with
  | nil => simp [insertEntry, poolSorted]
  | cons f rest ih =>
    obtain ⟨hf, hr⟩ := List.pairwise_cons.1 h
    unfold insertEntry
    split
    · rename_i hlt
      refine List.pairwise_cons.2 ⟨fun x hx => ?_, ih hr⟩
      rcases mem_insertEntry e x rest hx with rfl | hx
      · exact hlt
      · exact hf x hx
    · split
      · rename_i hat
        obtain ⟨h1, h2⟩ := (PoolEntry.isAt_iff f _ _).1 hat
        refine List.pairwise_cons.2 ⟨fun x hx => ?_, hr⟩
        rw [← h1, ← h2]
        exact hf x hx
      · rename_i hge hne
        refine List.pairwise_cons.2 ⟨fun x hx => ?_, h⟩
        have hk : xpKey e.row e.col < xpKey f.row f.col := by
          rcases Nat.lt_trichotomy (xpKey e.row e.col) (xpKey f.row f.col) with hk | hk | hk
          · exact hk
          · obtain ⟨h1, h2⟩ := xpKey_inj hk
            exact absurd ((PoolEntry.isAt_iff f _ _).2 ⟨h1.symm, h2.symm⟩) hne
          · exact absurd hk hge
        rcases List.mem_cons.1 hx with rfl | hx
        · exact hk
        · exact Nat.lt_trans hk (hf x hx)

/-- A crosspoint's entry read after an entry is put in. -/
theorem Matrix.putEntry_entry (m : Matrix) (e : PoolEntry) (r : Fin 256) (c : Fin 64) :
    (m.putEntry e).entry r c = if e.row = r ∧ e.col = c then some e else m.entry r c := by
  unfold Matrix.putEntry Matrix.entry
  simp only
  generalize m.pool = l
  induction l with
  | nil =>
    by_cases h : e.row = r ∧ e.col = c
    · simp [insertEntry, h]
    · have : (e.row == r && e.col == c) = false := by simpa using h
      simp [insertEntry, this, h]
  | cons f rest ih =>
    unfold insertEntry
    split
    · rename_i hlt
      by_cases hf : f.row = r ∧ f.col = c
      · have he : ¬(e.row = r ∧ e.col = c) := by
          rintro ⟨h1, h2⟩
          rw [hf.1, hf.2, h1, h2] at hlt
          omega
        simp [hf, he]
      · have : (f.row == r && f.col == c) = false := by simpa using hf
        rw [List.find?_cons, this, List.find?_cons, this]
        exact ih
    · split
      · rename_i hat
        obtain ⟨h1, h2⟩ := (PoolEntry.isAt_iff f _ _).1 hat
        by_cases h : e.row = r ∧ e.col = c
        · simp [h]
        · have k1 : (e.row == r && e.col == c) = false := by simpa using h
          have k2 : (f.row == r && f.col == c) = false := by rw [h1, h2]; exact k1
          rw [List.find?_cons, k1, List.find?_cons, k2]
          simp [h]
      · by_cases h : e.row = r ∧ e.col = c
        · simp [h]
        · have k1 : (e.row == r && e.col == c) = false := by simpa using h
          rw [List.find?_cons, k1]
          simp [h]

/-- A crosspoint's entry read after an entry is dropped. -/
theorem Matrix.dropEntry_entry (m : Matrix) (r r' : Fin 256) (c c' : Fin 64) :
    (m.dropEntry r c).entry r' c' = if r' = r ∧ c' = c then none else m.entry r' c' := by
  unfold Matrix.dropEntry Matrix.entry
  simp only
  generalize m.pool = l
  induction l with
  | nil => simp
  | cons f rest ih =>
    by_cases hf : f.row = r ∧ f.col = c
    · have k : (!f.isAt r c) = false := by simp [PoolEntry.isAt, hf]
      rw [List.filter_cons, k]
      simp only [Bool.false_eq_true, if_false]
      rw [ih]
      by_cases h : r' = r ∧ c' = c
      · simp [h]
      · have k2 : (f.row == r' && f.col == c') = false := by
          simp only [Bool.and_eq_false_iff, beq_eq_false_iff_ne]
          by_cases hr : f.row = r'
          · refine .inr fun hc => h ⟨?_, ?_⟩
            · rw [← hr, hf.1]
            · rw [← hc, hf.2]
          · exact .inl hr
        simp only [h, if_false]
        rw [List.find?_cons, k2]
    · have k : (!f.isAt r c) = true := by
        have : f.isAt r c = false := by simpa [PoolEntry.isAt] using hf
        simp [this]
      rw [List.filter_cons, k]
      simp only [if_true]
      by_cases h2 : f.row = r' ∧ f.col = c'
      · have h : ¬(r' = r ∧ c' = c) := by
          rintro ⟨a, b⟩
          exact hf ⟨h2.1.trans a, h2.2.trans b⟩
        simp [h, h2]
      · have k2 : (f.row == r' && f.col == c') = false := by simpa using h2
        rw [List.find?_cons, k2, List.find?_cons, k2]
        exact ih

/-- An entry found is an entry of the pool, at its crosspoint. -/
theorem Matrix.entry_some {m : Matrix} {r : Fin 256} {c : Fin 64} {e : PoolEntry} (h : m.entry r c = some e) :
    e ∈ m.pool ∧ e.row = r ∧ e.col = c := by
  unfold Matrix.entry at h
  have h2 := List.find?_some h
  exact ⟨List.mem_of_find?_eq_some h, by simpa using h2⟩

/-! ### The hand-out (R76) -/

/-- A hand-out moves no code of any crosspoint. -/
theorem Matrix.handOutTo_codes (l : List Waiting) (m : Matrix) (r : Fin 256) (c : Fin 64) :
    ((Matrix.handOutTo l m).cell r c).cur = (m.cell r c).cur ∧
      ((Matrix.handOutTo l m).cell r c).tgt = (m.cell r c).tgt := by
  induction l generalizing m with
  | nil => exact ⟨rfl, rfl⟩
  | cons w ws ih =>
    have hc : ((m.setCell w.row w.col { m.cell w.row w.col with pend := false }).cell r c).cur = (m.cell r c).cur ∧
        ((m.setCell w.row w.col { m.cell w.row w.col with pend := false }).cell r c).tgt = (m.cell r c).tgt := by
      rw [Matrix.setCell_cell]
      split
      · rename_i h
        rw [h.1, h.2]
        exact ⟨rfl, rfl⟩
      · exact ⟨rfl, rfl⟩
    unfold Matrix.handOutTo
    simp only
    split
    · exact ⟨(ih _).1.trans hc.1, (ih _).2.trans hc.2⟩
    · exact hc

theorem Matrix.handOut_codes (m : Matrix) (r : Fin 256) (c : Fin 64) :
    (m.handOut.cell r c).cur = (m.cell r c).cur ∧ (m.handOut.cell r c).tgt = (m.cell r c).tgt :=
  Matrix.handOutTo_codes _ _ _ _

/-- The waiting list that a hand-out leaves is an end of the list it began with. -/
theorem Matrix.handOutTo_waiting (l : List Waiting) (m : Matrix) : (Matrix.handOutTo l m).waiting <:+ l := by
  induction l generalizing m with
  | nil => exact List.suffix_refl _
  | cons w ws ih =>
    unfold Matrix.handOutTo
    simp only
    split
    · exact (ih _).trans (List.suffix_cons w ws)
    · exact List.suffix_cons w ws

/-- A hand-out leaves the pool as it was, or puts one entry in. -/
theorem Matrix.handOutTo_pool (l : List Waiting) (m : Matrix) :
    (Matrix.handOutTo l m).pool = m.pool ∨
      ∃ w ∈ l, (Matrix.handOutTo l m).pool =
        insertEntry ⟨w.row, w.col, ⟨(m.cell w.row w.col).cur, (m.cell w.row w.col).tgt, rampLen w.cls, 0⟩⟩ m.pool := by
  induction l generalizing m with
  | nil => exact .inl rfl
  | cons w ws ih =>
    unfold Matrix.handOutTo
    simp only
    split
    · rcases ih (m.setCell w.row w.col { m.cell w.row w.col with pend := false }) with h | ⟨v, hv, h⟩
      · exact .inl h
      · refine .inr ⟨v, List.mem_cons_of_mem _ hv, ?_⟩
        rw [h]
        simp only [Matrix.setCell_pool, Matrix.setCell_cell]
        split
        · rename_i h2
          rw [h2.1, h2.2]
        · rfl
    · exact .inr ⟨w, by simp, rfl⟩

end Sys2Proof.Machine
end

