-- ==== Sys2Proof/Laws/PerInstr.lean ====
section
/-! SUPPORT. A family of statements with one lemma for each command: the message a well-formed command is takes 6..64 octets on
the lane (R153, R170). -/

namespace Sys2Proof.Laws

open Sys2Proof.Machine

/-- The octets of a message. -/
theorem message_length (m : Message) : m.octets.length = m.payload.length + 6 := by
  simp [Message.octets, Message.body, octets16]

/-- A well-formed command that is a message is one of 6..64 octets. -/
def MessageLength.Statement (i : Instr) : Prop :=
  wellFormed i = true → ∀ m, messageOf i = some m → 6 ≤ m.octets.length ∧ m.octets.length ≤ 64

theorem MessageLength.of_none (i : Instr) (h : messageOf i = none) : MessageLength.Statement i := by
  intro _ m hm
  rw [h] at hm
  cases hm

theorem MessageLength.of_payload (i : Instr) (k t : Octet) (p : List Octet) (h : messageOf i = some ⟨k, t, p⟩)
    (hp : wellFormed i = true → payloadFits p = true) : MessageLength.Statement i := by
  intro hw m hm
  rw [h] at hm
  cases hm
  have := hp hw
  simp only [payloadFits, decide_eq_true_eq] at this
  rw [message_length]
  simp only
  omega

theorem MessageLength.passingFrame (l : Link) (o : List Octet) (dt : Nat) (n : Takes) : Statement (.passingFrame l o dt n) :=
  of_none _ rfl
theorem MessageLength.badFrame (l : Link) (dt : Nat) : Statement (.badFrame l dt) := of_none _ rfl
theorem MessageLength.missingFrame (l : Link) : Statement (.missingFrame l) := of_none _ rfl
theorem MessageLength.oscillatorPeriod : Statement .oscillatorPeriod := of_none _ rfl
theorem MessageLength.startUpReset : Statement .startUpReset := of_none _ rfl
theorem MessageLength.rampCompletion (r : Fin 256) (c : Fin 64) : Statement (.rampCompletion r c) := of_none _ rfl
theorem MessageLength.punchArrival (t : Fin 128) : Statement (.punchArrival t) := of_none _ rfl
theorem MessageLength.sweepCompletion : Statement .sweepCompletion := of_none _ rfl
theorem MessageLength.coalescingTimerExpiry : Statement .coalescingTimerExpiry := of_none _ rfl
theorem MessageLength.noticeComposition : Statement .noticeComposition := of_none _ rfl
theorem MessageLength.status (t : Octet) (p : List Octet) : Statement (.status t p) := of_payload _ _ _ _ rfl id
theorem MessageLength.readTable (t : Octet) (p : List Octet) : Statement (.readTable t p) := of_payload _ _ _ _ rfl id
theorem MessageLength.writeTable (t : Octet) (p : List Octet) : Statement (.writeTable t p) := of_payload _ _ _ _ rfl id
theorem MessageLength.writeField (t : Octet) (p : List Octet) : Statement (.writeField t p) := of_payload _ _ _ _ rfl id
theorem MessageLength.setWindow (t : Octet) (p : List Octet) : Statement (.setWindow t p) := of_payload _ _ _ _ rfl id
theorem MessageLength.writeGains (t : Octet) (p : List Octet) : Statement (.writeGains t p) := of_payload _ _ _ _ rfl id
theorem MessageLength.readGains (t : Octet) (p : List Octet) : Statement (.readGains t p) := of_payload _ _ _ _ rfl id
theorem MessageLength.matrixClear (t : Octet) (p : List Octet) : Statement (.matrixClear t p) := of_payload _ _ _ _ rfl id
theorem MessageLength.queueEvents (t : Octet) (p : List Octet) : Statement (.queueEvents t p) := of_payload _ _ _ _ rfl id
theorem MessageLength.flushQueue (t : Octet) (p : List Octet) : Statement (.flushQueue t p) := of_payload _ _ _ _ rfl id
theorem MessageLength.punch (t : Octet) (p : List Octet) : Statement (.punch t p) := of_payload _ _ _ _ rfl id
theorem MessageLength.readFlags (t : Octet) (p : List Octet) : Statement (.readFlags t p) := of_payload _ _ _ _ rfl id
theorem MessageLength.clearFlags (t : Octet) (p : List Octet) : Statement (.clearFlags t p) := of_payload _ _ _ _ rfl id
theorem MessageLength.testAndClear (t : Octet) (p : List Octet) : Statement (.testAndClear t p) := of_payload _ _ _ _ rfl id
theorem MessageLength.readCounters (t : Octet) (p : List Octet) : Statement (.readCounters t p) := of_payload _ _ _ _ rfl id
theorem MessageLength.engineReset (t : Octet) (p : List Octet) : Statement (.engineReset t p) := of_payload _ _ _ _ rfl id
theorem MessageLength.unknownCommandKind (k t : Octet) (p : List Octet) : Statement (.unknownCommandKind k t p) :=
  of_payload _ _ _ _ rfl fun h => by
    simp only [wellFormed, Bool.and_eq_true] at h
    exact h.2

end Sys2Proof.Laws
end

