-- ==== Sys2Proof/Laws/Touches.lean ====
section
/-! SUPPORT. For each operation that branches: the parts of the state it can change, all others being as they were. A proof
about one of the others cites the lemma and reads the field off the record. -/

namespace Sys2Proof.Machine

/-! ### Automation and the engine frame -/

/-- An applied move reaches the tables, the matrix, the egress map and the report, whatever it is (R143). -/
theorem State.applyMove_touches (s : State) (m : Move) : ∃ ch gr bu mx eg rp,
    s.applyMove m = { s with chans := ch, groups := gr, buses := bu, matrix := mx, egress := eg, report := rp } := by
  cases m <;> simp only [State.applyMove] <;> (try split) <;> exact ⟨_, _, _, _, _, _, rfl⟩

theorem State.countDeferred_touches (s : State) (d : Position) : ∃ rp, s.countDeferred d = { s with report := rp } := by
  unfold State.countDeferred
  split <;> exact ⟨_, rfl⟩

/-- R142: the application also takes events from the queue. -/
theorem State.applyDue_touches (n : Nat) (s : State) : ∃ ch gr bu mx eg rp q,
    State.applyDue n s =
      { s with chans := ch, groups := gr, buses := bu, matrix := mx, egress := eg, report := rp, queue := q } := by
  induction n generalizing s with
  | zero => exact ⟨_, _, _, _, _, _, _, rfl⟩
  | succ n ih =>
    unfold State.applyDue
    split
    · exact ⟨_, _, _, _, _, _, _, rfl⟩
    · split
      · exact ⟨_, _, _, _, _, _, _, rfl⟩
      · split
        · exact ⟨_, _, _, _, _, _, _, rfl⟩
        · rename_i e rest _ _ _
          obtain ⟨ch, gr, bu, mx, eg, rp, h1⟩ := State.applyMove_touches { s with queue := rest } e.move
          obtain ⟨rp2, h2⟩ := State.countDeferred_touches ({ s with queue := rest }.applyMove e.move) e.due
          obtain ⟨ch3, gr3, bu3, mx3, eg3, rp3, q3, h3⟩ := ih (({ s with queue := rest }.applyMove e.move).countDeferred e.due)
          rw [h3, h2, h1]
          exact ⟨_, _, _, _, _, _, _, rfl⟩

theorem State.automate_touches (s : State) : ∃ ch gr bu mx eg rp q,
    s.automate =
      { s with chans := ch, groups := gr, buses := bu, matrix := mx, egress := eg, report := rp, queue := q } := by
  unfold State.automate
  split
  · obtain ⟨ch, gr, bu, mx, eg, rp, q, h⟩ := State.applyDue_touches appliedPerFrame s
    rw [h]
    exact ⟨_, _, _, _, _, _, _, rfl⟩
  · exact ⟨_, _, _, _, _, _, _, rfl⟩

/-- R132, R135: the tracker, and on a jump the queue and the report. -/
theorem State.track_touches (s : State) (src : FrameSource) : ∃ tr q rp,
    s.track src = { s with tracker := tr, queue := q, report := rp } := by
  cases src <;> simp only [State.track] <;> (try split) <;> exact ⟨_, _, _, rfl⟩

theorem State.foldl_touches {α : Type} {f : State → α → State} {P : State → State → Prop} (hr : ∀ s, P s s)
    (ht : ∀ s t u, P s t → P t u → P s u) (hf : ∀ s a, P s (f s a)) (l : List α) (s : State) : P s (l.foldl f s) := by
  induction l generalizing s with
  | nil => exact hr s
  | cons a l ih => exact ht _ _ _ (hf s a) (ih _)

theorem State.advancePunches_touches (s : State) : ∃ eg rp, s.advancePunches = { s with egress := eg, report := rp } := by
  refine State.foldl_touches (P := fun s t => ∃ eg rp, t = { s with egress := eg, report := rp })
    (fun s => ⟨_, _, rfl⟩) ?_ (fun s i => ⟨_, _, rfl⟩) _ s
  rintro s t u ⟨e1, r1, rfl⟩ ⟨e2, r2, rfl⟩
  exact ⟨_, _, rfl⟩

theorem State.noteClips_touches (s : State) (v : Vector Bool 64) : ∃ bu rp,
    s.noteClips v = { s with buses := bu, report := rp } := by
  refine State.foldl_touches (P := fun s t => ∃ bu rp, t = { s with buses := bu, report := rp })
    (fun s => ⟨_, _, rfl⟩) ?_ (fun s i => ⟨_, _, rfl⟩) _ s
  rintro s t u ⟨e1, r1, rfl⟩ ⟨e2, r2, rfl⟩
  exact ⟨_, _, rfl⟩

theorem State.visit_touches (s : State) (n : Fin 8) (k : Nat) : ∃ mx rp,
    s.visit n k = { s with matrix := mx, report := rp } := by
  refine State.foldl_touches (P := fun s t => ∃ mx rp, t = { s with matrix := mx, report := rp })
    (fun s => ⟨_, _, rfl⟩) ?_ ?_ _ s
  · rintro s t u ⟨e1, r1, rfl⟩ ⟨e2, r2, rfl⟩
    exact ⟨_, _, rfl⟩
  · intro s j
    split <;> exact ⟨_, _, rfl⟩

theorem State.sweepVisits_touches (s : State) : ∃ mx rp sw,
    s.sweepVisits = { s with matrix := mx, report := rp, sweep := sw } := by
  unfold State.sweepVisits
  split
  · exact ⟨_, _, _, rfl⟩
  · rename_i n left _
    obtain ⟨mx, rp, h⟩ := State.visit_touches s n (16384 - left)
    simp only [h]
    split <;> exact ⟨_, _, _, rfl⟩

/-- Composition, timer and takes reach the links, the response queue, the report and the pair sent. -/
theorem State.frameStart_touches (s : State) : ∃ lk rs rp se,
    s.frameStart = { s with links := lk, responses := rs, report := rp, sent := se } := ⟨_, _, _, _, rfl⟩

/-- The part of a frame before its sums leaves the clock, the tables that only commands write, the framer, the command queue
and the held results. -/
theorem State.frameMoves_touches (s : State) (src : FrameSource) : ∃ lk ch gr bu mx eg tr q rs rp se,
    s.frameMoves src =
      { s with links := lk, chans := ch, groups := gr, buses := bu, matrix := mx, egress := eg, tracker := tr, queue := q,
               responses := rs, report := rp, sent := se } := by
  obtain ⟨lk, rs, rp0, se, h1⟩ := State.frameStart_touches s
  obtain ⟨tr, q, rp1, h2⟩ := State.track_touches s.frameStart src
  obtain ⟨ch, gr, bu, mx, eg, rp2, q2, h3⟩ := State.automate_touches (s.frameStart.track src)
  obtain ⟨eg2, rp3, h4⟩ := State.advancePunches_touches (s.frameEvents src).advanceRamps
  refine ⟨lk, ?_⟩
  unfold State.frameMoves
  rw [h4]
  unfold State.frameEvents
  rw [h3, h2, h1]
  exact ⟨_, _, _, _, _, _, _, _, _, _, rfl⟩

theorem State.computeFrame_touches (s : State) (src : FrameSource) : ∃ bu rp x y,
    s.computeFrame src =
      { s with buses := bu, report := rp, heldOld := s.heldNew, heldNew := ⟨s.tracker.pos, s.tracker.rolling, x, y⟩ } := by
  unfold State.computeFrame
  obtain ⟨bu, rp, h⟩ := State.noteClips_touches s
    (s.computeBuses (Vector.ofFn fun i => polarise s.chans[i].polarity (s.rawSample src i))).clipped
  refine ⟨bu, rp, ?_⟩
  simp only [Fin.getElem_fin, Vector.getElem_ofFn] at h ⊢
  simp only [h, State.holdResults]
  exact ⟨_, _, rfl⟩

/-- An engine frame leaves the clock, the acceptance, ingress and window tables, the framer and the command queue. -/
theorem State.engineFrame_touches (s : State) (src : FrameSource) :
    ∃ lk ch gr bu mx sw eg tr q rs rp ho hn se,
    s.engineFrame src =
      { s with links := lk, chans := ch, groups := gr, buses := bu, matrix := mx, sweep := sw, egress := eg, tracker := tr,
               queue := q, responses := rs, report := rp, heldOld := ho, heldNew := hn, sent := se } := by
  unfold State.engineFrame
  obtain ⟨mx3, rp3, sw, h3⟩ := State.sweepVisits_touches ((s.frameMoves src).computeFrame src)
  obtain ⟨bu2, rp2, x, y, h2⟩ := State.computeFrame_touches (s.frameMoves src) src
  obtain ⟨lk, ch, gr, bu, mx, eg, tr, q, rs, rp, se, h1⟩ := State.frameMoves_touches s src
  rw [h3, h2, h1]
  exact ⟨_, _, _, _, _, _, _, _, _, _, _, _, _, _, rfl⟩

/-! ### The framer -/

theorem State.joinMessage_touches (s : State) (m : Message) : ∃ cm rp,
    s.joinMessage m = { s with commands := cm, report := rp } := by
  unfold State.joinMessage
  split <;> exact ⟨_, _, rfl⟩

theorem State.frameOctet_touches (s : State) (o : Octet) : ∃ fr rp,
    s.frameOctet o = { s with framer := fr, report := rp } := by
  unfold State.frameOctet
  split
  · split <;> exact ⟨_, _, rfl⟩
  · split
    · exact ⟨_, _, rfl⟩
    · split <;> exact ⟨_, _, rfl⟩
  · exact ⟨_, _, rfl⟩

theorem State.judge_touches (s : State) : ∃ fr cm rp,
    s.judge.1 = { s with framer := fr, commands := cm, report := rp } := by
  unfold State.judge
  split
  · exact ⟨_, _, _, rfl⟩
  · split
    · rename_i m _
      obtain ⟨cm, rp, h⟩ := State.joinMessage_touches { s with framer := .hunt } m
      exact ⟨_, _, _, h⟩
    · exact ⟨_, _, _, rfl⟩

/-- The framer reaches its own state, the command queue and the report. -/
theorem State.frameOctets_touches (n : Nat) (l : List Octet) (s : State) : ∃ fr cm rp,
    State.frameOctets n l s = { s with framer := fr, commands := cm, report := rp } := by
  induction n generalizing l s with
  | zero => exact ⟨_, _, _, rfl⟩
  | succ n ih =>
    cases l with
    | nil => exact ⟨_, _, _, rfl⟩
    | cons o rest =>
      obtain ⟨fr1, rp1, h1⟩ := State.frameOctet_touches s o
      obtain ⟨fr2, cm2, rp2, h2⟩ := State.judge_touches (s.frameOctet o)
      obtain ⟨fr3, cm3, rp3, h3⟩ := ih ((s.frameOctet o).judge.2 ++ rest) (s.frameOctet o).judge.1
      simp only [State.frameOctets]
      rw [h3, h2, h1]
      exact ⟨_, _, _, rfl⟩

theorem State.takeLane_touches (s : State) (l : List Octet) : ∃ fr cm rp,
    s.takeLane l = { s with framer := fr, commands := cm, report := rp } := State.frameOctets_touches _ _ _

theorem State.readLane_touches (s : State) (l : Link) (w : List Octet) : ∃ fr cm rp,
    s.readLane l w = { s with framer := fr, commands := cm, report := rp } := by
  unfold State.readLane
  split
  · exact State.takeLane_touches s w
  · exact ⟨_, _, _, rfl⟩

theorem State.frameBreak_touches (s : State) : ∃ fr rp, s.frameBreak = { s with framer := fr, report := rp } := by
  unfold State.frameBreak
  split <;> exact ⟨_, _, rfl⟩

theorem State.breakLane_touches (s : State) (l : Link) (w : LinkState) : ∃ fr rp,
    s.breakLane l w = { s with framer := fr, report := rp } := by
  unfold State.breakLane
  split
  · exact State.frameBreak_touches s
  · exact ⟨_, _, rfl⟩

/-! ### The receivers -/

theorem State.clockFollows_touches (s : State) (l : Link) (a b : LinkState) (v : Bool) : ∃ ck tr rp,
    s.clockFollows l a b v = { s with clock := ck, tracker := tr, report := rp } := by
  unfold State.clockFollows
  split
  · exact ⟨_, _, _, rfl⟩
  · split <;> exact ⟨_, _, _, rfl⟩

/-- A change of link state reaches the link, the clock, the mute ramps, the tracker and the report. -/
theorem State.moveLink_touches (s : State) (l : Link) (st : LinkState) (via : Option BufFrame) : ∃ lk ck ch tr rp,
    s.moveLink l st via = { s with links := lk, clock := ck, chans := ch, tracker := tr, report := rp } := by
  unfold State.moveLink
  simp only
  split
  · exact ⟨_, _, _, _, _, rfl⟩
  · obtain ⟨ck, tr, rp, h⟩ := State.clockFollows_touches
      ((s.setLink l { s.link l with state := st, buf := bufferOn l st via }).setItem (.link l)) l (s.link l).state st
      via.isSome
    rw [h]
    exact ⟨_, _, _, _, _, rfl⟩

theorem State.loseLink_touches (s : State) (l : Link) : ∃ lk ck ch tr rp,
    s.loseLink l = { s with links := lk, clock := ck, chans := ch, tracker := tr, report := rp } := by
  unfold State.loseLink
  obtain ⟨lk, ck, ch, tr, rp, h⟩ := State.moveLink_touches
    (s.setLink l { s.link l with ann := none, run := 0, badRun := 0, lastGood := zeroSamples }) l .absent none
  rw [h]
  exact ⟨_, _, _, _, _, rfl⟩

theorem State.classify_touches (s : State) (l : Link) (via : BufFrame) : ∃ lk ck ch tr rp,
    s.classify l via = { s with links := lk, clock := ck, chans := ch, tracker := tr, report := rp } := by
  unfold State.classify
  split
  · exact ⟨_, _, _, _, _, rfl⟩
  · exact State.moveLink_touches _ _ _ _

theorem State.receive_touches (s : State) (l : Link) (f : LinkFrame) : ∃ lk ck ch tr rp,
    s.receive l f = { s with links := lk, clock := ck, chans := ch, tracker := tr, report := rp } := by
  have begins : ∀ s : State, ∃ lk ck ch tr rp,
      s.beginSensing l f = { s with links := lk, clock := ck, chans := ch, tracker := tr, report := rp } := by
    intro s
    unfold State.beginSensing
    obtain ⟨lk, ck, ch, tr, rp, h⟩ := State.moveLink_touches
      (s.setLink l { s.link l with ann := some f.ann, run := 1, badRun := 0, lastGood := f.samples }) l .sensing none
    rw [h]
    exact ⟨_, _, _, _, _, rfl⟩
  unfold State.receive
  split
  · exact begins s
  · unfold State.senseFrame
    simp only
    generalize (if 1 ≤ (s.link l).run ∧ (s.link l).ann = some f.ann then (s.link l).run + 1 else 1) = run
    split
    · obtain ⟨lk, ck, ch, tr, rp, h⟩ := State.classify_touches
        (s.setLink l { s.link l with ann := some f.ann, run := run, badRun := 0, lastGood := f.samples }) l
        (.received f.samples)
      simp only at h
      rw [h]
      exact ⟨_, _, _, _, _, rfl⟩
    · exact ⟨_, _, _, _, _, rfl⟩
  · split
    · split <;> exact ⟨_, _, _, _, _, rfl⟩
    · exact begins s
  · split
    · exact ⟨_, _, _, _, _, rfl⟩
    · exact begins s

theorem State.failFrame_touches (s : State) (l : Link) (bad : Bool) : ∃ lk ck ch tr rp,
    s.failFrame l bad = { s with links := lk, clock := ck, chans := ch, tracker := tr, report := rp } := by
  have quiet : ∀ n, ∃ lk ck ch tr rp,
      s.failQuiet l n = { s with links := lk, clock := ck, chans := ch, tracker := tr, report := rp } := by
    intro n
    unfold State.failQuiet
    split
    · exact State.loseLink_touches s l
    · exact ⟨_, _, _, _, _, rfl⟩
  unfold State.failFrame
  split
  · exact ⟨_, _, _, _, _, rfl⟩
  · exact quiet 0
  · unfold State.failAccepted
    cases bad
    · simp only [Bool.false_eq_true, if_false]
      split
      · exact State.loseLink_touches s l
      · unfold State.repeatFrame
        simp only
        split <;> exact ⟨_, _, _, _, _, rfl⟩
    · simp only [if_true]
      split
      · obtain ⟨lk, ck, ch, tr, rp, h⟩ := State.loseLink_touches (s.addCount (badFramesOf l)) l
        rw [h]
        exact ⟨_, _, _, _, _, rfl⟩
      · unfold State.repeatFrame
        simp only
        split <;> exact ⟨_, _, _, _, _, rfl⟩
  · exact quiet _

theorem State.noteArrival_touches (s : State) (l : Link) (c : ClockState) (dt : Nat) : ∃ ck,
    s.noteArrival l c dt = { s with clock := ck } := by
  unfold State.noteArrival
  split <;> exact ⟨_, rfl⟩

theorem State.noteMissed_touches (s : State) (l : Link) : ∃ ck, s.noteMissed l = { s with clock := ck } := by
  unfold State.noteMissed
  split <;> exact ⟨_, rfl⟩

theorem State.reclassify_touches (s : State) (w : List Nat) (l : Link) : ∃ lk ck ch tr rp,
    s.reclassify w l = { s with links := lk, clock := ck, chans := ch, tracker := tr, report := rp } := by
  unfold State.reclassify
  split
  · exact ⟨_, _, _, _, _, rfl⟩
  · split
    · exact State.moveLink_touches _ _ _ _
    · exact ⟨_, _, _, _, _, rfl⟩

end Sys2Proof.Machine
end

