-- ==== Sys2Proof/Laws/Processor.lean ====
section
/-! SUPPORT. The command processor: what a table write, a command and a take can change, and what a message handed to a free
processor does. -/

namespace Sys2Proof.Machine

/-! ### Table writes -/

/-- A record or field refused writes nothing; one written reaches the tables and the report's own records only. -/
def Written.only (s : State) (w : Written) : Prop :=
  ∀ t, w = .ok t → ∃ ac ig ch gr bu eg rp,
    t = { s with accept := ac, ingress := ig, chans := ch, groups := gr, buses := bu, egress := eg, report := rp }

theorem Written.only_error (s : State) (e : Status) : Written.only s (.error e) := fun _ h => nomatch h

theorem Written.only_ranged {α : Type} (s : State) (x : Option α) (f : α → Written) (h : ∀ a, Written.only s (f a)) :
    Written.only s (ranged x f) := by
  cases x with
  | none => exact Written.only_error s _
  | some a => exact h a

theorem Written.only_ok (s t : State) (h : ∃ ac ig ch gr bu eg rp,
    t = { s with accept := ac, ingress := ig, chans := ch, groups := gr, buses := bu, egress := eg, report := rp }) :
    Written.only s (.ok t) := by
  intro u hu
  cases hu
  exact h

theorem Written.only_ite (s : State) (c : Prop) [Decidable c] (a b : Written) (ha : Written.only s a)
    (hb : Written.only s b) : Written.only s (if c then a else b) := by
  split
  · exact ha
  · exact hb

theorem State.putSlot_only (s : State) (i : Fin 128) (a b c d : Nat) : Written.only s (s.putSlot i a b c d) := by
  unfold State.putSlot
  refine Written.only_ranged _ _ _ fun u => Written.only_ranged _ _ _ fun n => Written.only_ok _ _ ?_
  exact ⟨_, _, _, _, _, _, _, rfl⟩

theorem State.writeRecord_only (s : State) (space : Fin 8) (idx : Nat) (o : List Octet) :
    Written.only s (s.writeRecord space idx o) := by
  unfold State.writeRecord
  split
  · refine Written.only_ranged _ _ _ fun i => Written.only_ranged _ _ _ fun f => Written.only_ok _ _ ?_
    exact ⟨_, _, _, _, _, _, _, rfl⟩
  · refine Written.only_ranged _ _ _ fun i => Written.only_ranged _ _ _ fun f => Written.only_ite _ _ _ _ ?_ ?_
    · exact Written.only_ok _ _ ⟨_, _, _, _, _, _, _, rfl⟩
    · exact Written.only_error _ _
  · refine Written.only_ranged _ _ _ fun i => Written.only_ranged _ _ _ fun f => Written.only_ok _ _ ?_
    exact ⟨_, _, _, _, _, _, _, rfl⟩
  · refine Written.only_ranged _ _ _ fun i => Written.only_ranged _ _ _ fun f => Written.only_ok _ _ ?_
    exact ⟨_, _, _, _, _, _, _, rfl⟩
  · refine Written.only_ranged _ _ _ fun i => Written.only_ranged _ _ _ fun f => Written.only_ite _ _ _ _ ?_ ?_
    · exact Written.only_ok _ _ ⟨_, _, _, _, _, _, _, rfl⟩
    · exact Written.only_error _ _
  · refine Written.only_ranged _ _ _ fun i => Written.only_ite _ _ _ _ (Written.only_error _ _) ?_
    exact State.putSlot_only _ _ _ _ _ _
  · refine Written.only_ranged _ _ _ fun i => Written.only_ranged _ _ _ fun f => Written.only_ok _ _ ?_
    exact ⟨_, _, _, _, _, _, _, rfl⟩
  · refine Written.only_ranged _ _ _ fun i => Written.only_ranged _ _ _ fun f => Written.only_ok _ _ ?_
    exact ⟨_, _, _, _, _, _, _, rfl⟩

theorem State.writeOneField_only (s : State) (space idx field : Nat) (v : Int) :
    Written.only s (s.writeOneField space idx field v) := by
  unfold State.writeOneField
  split
  · refine Written.only_ranged _ _ _ fun i => ?_
    split
    · exact Written.only_ok _ _ ⟨_, _, _, _, _, _, _, rfl⟩
    · exact Written.only_ranged _ _ _ fun g => Written.only_ok _ _ ⟨_, _, _, _, _, _, _, rfl⟩
    · exact Written.only_ranged _ _ _ fun g => Written.only_ok _ _ ⟨_, _, _, _, _, _, _, rfl⟩
    · exact Written.only_ranged _ _ _ fun g => Written.only_ok _ _ ⟨_, _, _, _, _, _, _, rfl⟩
    · exact Written.only_ranged _ _ _ fun g => Written.only_ok _ _ ⟨_, _, _, _, _, _, _, rfl⟩
    · exact Written.only_error _ _
  · refine Written.only_ranged _ _ _ fun i => ?_
    split
    · refine Written.only_ranged _ _ _ fun g => Written.only_ite _ _ _ _ ?_ (Written.only_error _ _)
      exact Written.only_ok _ _ ⟨_, _, _, _, _, _, _, rfl⟩
    · exact Written.only_ok _ _ ⟨_, _, _, _, _, _, _, rfl⟩
    · exact Written.only_ranged _ _ _ fun g => Written.only_ok _ _ ⟨_, _, _, _, _, _, _, rfl⟩
    · exact Written.only_ranged _ _ _ fun g => Written.only_ok _ _ ⟨_, _, _, _, _, _, _, rfl⟩
    · exact Written.only_error _ _
  · refine Written.only_ranged _ _ _ fun i => ?_
    split
    · exact Written.only_ok _ _ ⟨_, _, _, _, _, _, _, rfl⟩
    · exact Written.only_ranged _ _ _ fun g => Written.only_ok _ _ ⟨_, _, _, _, _, _, _, rfl⟩
    · exact Written.only_error _ _
  · refine Written.only_ranged _ _ _ fun i => Written.only_ite _ _ _ _ (Written.only_error _ _) ?_
    refine Written.only_ranged _ _ _ fun n => ?_
    simp only
    split
    · exact State.putSlot_only _ _ _ _ _ _
    · exact State.putSlot_only _ _ _ _ _ _
    · exact State.putSlot_only _ _ _ _ _ _
    · exact State.putSlot_only _ _ _ _ _ _
    · exact Written.only_error _ _
  · exact Written.only_ite _ _ _ _ (Written.only_error _ _) (Written.only_error _ _)

theorem State.writeRecords_touches (space : Fin 8) (idx : Nat) (recs : List (List Octet)) (s : State) :
    ∃ ac ig ch gr bu eg rp, (State.writeRecords space idx recs s).state =
      { s with accept := ac, ingress := ig, chans := ch, groups := gr, buses := bu, egress := eg, report := rp } := by
  induction recs generalizing idx s with
  | nil => exact ⟨_, _, _, _, _, _, _, rfl⟩
  | cons o rest ih =>
    unfold State.writeRecords
    split
    · exact ⟨_, _, _, _, _, _, _, rfl⟩
    · rename_i s1 h1
      obtain ⟨ac, ig, ch, gr, bu, eg, rp, hs⟩ := State.writeRecord_only s space idx o s1 h1
      obtain ⟨ac2, ig2, ch2, gr2, bu2, eg2, rp2, h2⟩ := ih (idx + 1) s1
      simp only
      rw [h2, hs]
      exact ⟨_, _, _, _, _, _, _, rfl⟩

theorem State.afterWrite_touches (s w : State) (space : Fin 8) (idx n : Nat) : ∃ lk ck ch tr rp,
    s.afterWrite w space idx n = { w with links := lk, clock := ck, chans := ch, tracker := tr, report := rp } := by
  unfold State.afterWrite
  split
  · simp only
    obtain ⟨l1, c1, h1, t1, r1, e1⟩ := State.reclassify_touches w ((List.range n).map (· + idx)) .a
    obtain ⟨l2, c2, h2, t2, r2, e2⟩ := State.reclassify_touches (w.reclassify ((List.range n).map (· + idx)) .a)
      ((List.range n).map (· + idx)) .b
    obtain ⟨l3, c3, h3, t3, r3, e3⟩ := State.reclassify_touches
      ((w.reclassify ((List.range n).map (· + idx)) .a).reclassify ((List.range n).map (· + idx)) .b)
      ((List.range n).map (· + idx)) .c
    obtain ⟨l4, c4, h4, t4, r4, e4⟩ := State.reclassify_touches
      (((w.reclassify ((List.range n).map (· + idx)) .a).reclassify ((List.range n).map (· + idx)) .b).reclassify
        ((List.range n).map (· + idx)) .c) ((List.range n).map (· + idx)) .d
    rw [e4, e3, e2, e1]
    exact ⟨_, _, _, _, _, rfl⟩
  · exact ⟨_, _, _, _, _, rfl⟩
  · exact ⟨_, _, _, _, _, rfl⟩

/-! ### Commands -/

/-- What no command's execution changes: the framer, the two queues of the command channel (the message's own removal and the
response apart), the held results, the last pair of frames sent, and the world's queue. -/
def State.SameChannel (s t : State) : Prop :=
  t.framer = s.framer ∧ t.commands = s.commands ∧ t.responses = s.responses ∧ t.heldOld = s.heldOld ∧
    t.heldNew = s.heldNew ∧ t.sent = s.sent ∧ t.pending = s.pending

theorem State.SameChannel.refl (s : State) : s.SameChannel s := ⟨rfl, rfl, rfl, rfl, rfl, rfl, rfl⟩

theorem State.SameChannel.trans {s t u : State} (h : s.SameChannel t) (k : t.SameChannel u) : s.SameChannel u := by
  obtain ⟨h1, h2, h3, h4, h5, h6, h7⟩ := h
  obtain ⟨k1, k2, k3, k4, k5, k6, k7⟩ := k
  exact ⟨k1.trans h1, k2.trans h2, k3.trans h3, k4.trans h4, k5.trans h5, k6.trans h6, k7.trans h7⟩

theorem State.sameChannel_gainCell (s : State) (n : Fin 8) (code : Int) : s.SameChannel (s.gainCell n code) := by
  unfold State.gainCell
  split <;> exact State.SameChannel.refl _

theorem State.sameChannel_gainCells (n : Fin 8) (l : List Int) (s : State) :
    s.SameChannel (State.gainCells n l s).1 := by
  induction l generalizing s with
  | nil => exact State.SameChannel.refl _
  | cons code rest ih => exact (State.sameChannel_gainCell s n code).trans (ih _)

theorem State.sameChannel_readCells (n : Nat) (s : State) : s.SameChannel (State.readCells n s).1 := by
  induction n generalizing s with
  | zero => exact State.SameChannel.refl _
  | succ n ih => exact State.SameChannel.trans ⟨rfl, rfl, rfl, rfl, rfl, rfl, rfl⟩ (ih s.stepWindow)

theorem State.sameChannel_applyMove (s : State) (m : Move) : s.SameChannel (s.applyMove m) := by
  obtain ⟨ch, gr, bu, mx, eg, rp, h⟩ := State.applyMove_touches s m
  rw [h]
  exact ⟨rfl, rfl, rfl, rfl, rfl, rfl, rfl⟩

theorem State.sameChannel_takeEvents (l : List (List Octet)) (n : Nat) (s : State) :
    s.SameChannel (State.takeEvents l n s).state := by
  induction l generalizing n s with
  | nil => exact State.SameChannel.refl _
  | cons o rest ih =>
    unfold State.takeEvents
    split
    · exact State.SameChannel.refl _
    · split
      · exact (State.sameChannel_applyMove s _).trans (State.SameChannel.trans ⟨rfl, rfl, rfl, rfl, rfl, rfl, rfl⟩ (ih _ _))
      · split
        · exact State.SameChannel.trans ⟨rfl, rfl, rfl, rfl, rfl, rfl, rfl⟩ (ih _ _)
        · exact State.SameChannel.refl _

theorem State.sameChannel_punchRun (s : State) (a b : Nat) (into : Bool) : s.SameChannel (s.punchRun a b into) := by
  refine State.foldl_touches State.SameChannel.refl (fun _ _ _ => State.SameChannel.trans) ?_ _ s
  intro s j
  split
  · split <;> exact ⟨rfl, rfl, rfl, rfl, rfl, rfl, rfl⟩
  · exact State.SameChannel.refl _

theorem State.sameChannel_doWriteTable (p : List Octet) (s : State) : s.SameChannel (doWriteTable p s).state := by
  unfold doWriteTable
  split
  · exact State.SameChannel.refl _
  · split
    · exact State.SameChannel.refl _
    · rename_i space _
      simp only
      split
      · exact State.SameChannel.refl _
      · simp only [Reply.counted]
        obtain ⟨ac, ig, ch, gr, bu, eg, rp, h⟩ := State.writeRecords_touches space (p.getD 1 0).toNat
          (records (recordSize space) (p.drop 2)) s
        obtain ⟨lk, ck, ch2, tr, rp2, h2⟩ := State.afterWrite_touches s
          (State.writeRecords space (p.getD 1 0).toNat (records (recordSize space) (p.drop 2)) s).state space
          (p.getD 1 0).toNat
          (State.writeRecords space (p.getD 1 0).toNat (records (recordSize space) (p.drop 2)) s).count
        rw [h2, h]
        exact ⟨rfl, rfl, rfl, rfl, rfl, rfl, rfl⟩

theorem State.sameChannel_doWriteField (p : List Octet) (s : State) : s.SameChannel (doWriteField p s).state := by
  unfold doWriteField
  split
  · exact State.SameChannel.refl _
  · rename_i s1 h1
    obtain ⟨ac, ig, ch, gr, bu, eg, rp, h⟩ := State.writeOneField_only _ _ _ _ _ s1 h1
    simp only [Reply.only, h]
    exact ⟨rfl, rfl, rfl, rfl, rfl, rfl, rfl⟩

theorem State.sameChannel_doCommand (k : Nat) (p : List Octet) (s : State) : s.SameChannel (doCommand k p s).state := by
  have r := State.SameChannel.refl s
  unfold doCommand
  split
  · exact r
  · unfold doReadTable
    split
    · exact r
    · simp only
      split <;> exact r
  · exact State.sameChannel_doWriteTable p s
  · exact State.sameChannel_doWriteField p s
  · unfold doSetWindow
    split <;> exact ⟨rfl, rfl, rfl, rfl, rfl, rfl, rfl⟩
  · unfold doWriteGains
    split
    · exact r
    · split
      · exact r
      · exact State.sameChannel_gainCells _ _ _
  · unfold doReadGains
    simp only
    split
    · exact State.sameChannel_readCells _ _
    · exact r
  · unfold doMatrixClear
    split
    · exact r
    · split <;> exact ⟨rfl, rfl, rfl, rfl, rfl, rfl, rfl⟩
  · exact State.sameChannel_takeEvents _ _ _
  · exact ⟨rfl, rfl, rfl, rfl, rfl, rfl, rfl⟩
  · unfold doPunch
    simp only
    split
    · exact r
    · split
      · exact r
      · exact State.sameChannel_punchRun _ _ _ _
  · exact ⟨rfl, rfl, rfl, rfl, rfl, rfl, rfl⟩
  · unfold doClearFlags
    split <;> exact ⟨rfl, rfl, rfl, rfl, rfl, rfl, rfl⟩
  · unfold doTestAndClear
    split <;> exact ⟨rfl, rfl, rfl, rfl, rfl, rfl, rfl⟩
  · unfold doReadCounters
    simp only
    split
    · split
      · exact r
      · simp only [Reply.withData]
        split <;> exact ⟨rfl, rfl, rfl, rfl, rfl, rfl, rfl⟩
    · exact r
  · simp only [doEngineReset, Reply.only, State.SameChannel, State.engineReset_framer, State.engineReset_commands,
      State.engineReset_responses, State.engineReset_heldOld, State.engineReset_heldNew, State.engineReset_sent,
      State.engineReset_pending, and_self]
  · exact r

theorem State.sameChannel_runMessage (m : Message) (s : State) : s.SameChannel (runMessage m s).state := by
  unfold runMessage
  split
  · exact State.SameChannel.refl _
  · split
    · exact State.SameChannel.refl _
    · exact State.sameChannel_doCommand _ _ _

/-- R158: an executed message leaves one response, with its tag, at the tail of the response queue. -/
theorem State.execute_responses (s : State) (m : Message) :
    (s.execute m).responses = s.responses ++ [⟨responseKind m.kind, m.tag, (runMessage m s).payload⟩] := by
  simp only [State.execute, (State.sameChannel_runMessage m s).2.2.1]

theorem State.execute_commands (s : State) (m : Message) : (s.execute m).commands = s.commands := by
  simp only [State.execute, (State.sameChannel_runMessage m s).2.1]

theorem State.execute_pending (s : State) (m : Message) : (s.execute m).pending = s.pending := by
  simp only [State.execute, (State.sameChannel_runMessage m s).2.2.2.2.2.2]

/-! ### Handing a message on -/

/-- A message handed to a free processor is executed at once (R156, R158). -/
theorem State.submit_ready (s : State) (m : Message) (h : s.ready) : s.submit m = s.execute m := by
  obtain ⟨hc, hr⟩ := h
  have hs : { s with commands := ([] : List Message) } = s := by rw [← hc]
  simp only [State.submit, State.joinMessage, hc, List.length_nil, channelSize, Nat.zero_lt_succ, if_true, List.nil_append,
    List.length_cons, State.takeMessages, State.takeMessage, hr, hs]

/-! ### Takes in a row: what each take keeps, all of them keep (R158) -/

theorem State.takeMessages_keeps {P : State → Prop} (h : ∀ s, P s → P s.takeMessage) (n : Nat) (s : State) (hs : P s) :
    P (State.takeMessages n s) := by
  induction n generalizing s with
  | zero => exact hs
  | succ n ih => exact ih _ (h s hs)

theorem State.takesWhile_keeps {P : State → Prop} (holds : State → Bool) (h : ∀ s, holds s = true → P s → P s.takeMessage)
    (n : Nat) (s : State) (hs : P s) : P (State.takesWhile holds n s) := by
  induction n generalizing s with
  | zero => exact hs
  | succ n ih =>
    unfold State.takesWhile
    split
    · rename_i hp
      exact ih _ (h s hp hs)
    · exact hs

/-- The end of a link's event is takes, and an engine frame when they leave link A ACCEPTED and the clock LOCKED (R15). -/
theorem State.endEvent_keeps {P : State → Prop} (src : FrameSource) (ht : ∀ s, P s → P s.takeMessage)
    (hf : ∀ s, s.paced = true → P s → P (s.engineFrame src)) (s : State) (l : Link) (n : Nat) (hs : P s) :
    P (s.endEvent l n src) := by
  have kept := State.takesWhile_keeps (P := P) State.paced (fun s _ => ht s) n s hs
  unfold State.endEvent
  split
  · dsimp only
    split
    · rename_i hp
      exact hf _ hp kept
    · exact kept
  · exact hs

/-- The end of an oscillator period is takes, and an engine frame when they leave the clock FREE (R16). -/
theorem State.periodEvent_keeps {P : State → Prop} (ht : ∀ s, P s → P s.takeMessage)
    (hf : ∀ s, s.free = true → P s → P (s.engineFrame .oscillator)) (s : State) (hs : P s) : P s.periodEvent := by
  have kept := State.takesWhile_keeps (P := P) State.free (fun s _ => ht s) s.commands.length s hs
  unfold State.periodEvent
  dsimp only
  split
  · rename_i hp
    exact hf _ hp kept
  · exact kept

/-- The state and response of a message that changes nothing but the response queue. -/
theorem State.execute_reply (s t : State) (m : Message) (p : List Octet) (h : runMessage m s = ⟨t, p⟩) :
    s.execute m = t.respond (responseKind m.kind) m.tag p := by
  simp only [State.execute, h, State.respond]

end Sys2Proof.Machine
end

