-- ==== Sys2Proof/Laws/Queue.lean ====
section
/-! SUPPORT. The automation queue, the elastic buffers and the framer's queue: one lemma for each operation on a list. -/

namespace Sys2Proof.Machine

/-- An insertion adds one event (R137). -/
theorem insertEvent_length (e : AutoEvent) (l : List AutoEvent) : (insertEvent e l).length = l.length + 1 := by
  induction l with
  | nil => rfl
  | cons f rest ih =>
    unfold insertEvent
    split <;> simp [ih]

theorem mem_insertEvent (e x : AutoEvent) (l : List AutoEvent) : x ∈ insertEvent e l ↔ x = e ∨ x ∈ l := by
  induction l with
  | nil => simp [insertEvent]
  | cons f rest ih =>
    unfold insertEvent
    split
    · simp only [List.mem_cons, ih]
      tauto
    · simp only [List.mem_cons]

/-- A late or applied move leaves the queue alone (R143). -/
@[simp] theorem State.applyMove_queue (s : State) (m : Move) : (s.applyMove m).queue = s.queue := by
  obtain ⟨ch, gr, bu, mx, eg, rp, h⟩ := State.applyMove_touches s m
  rw [h]

@[simp] theorem State.applyMove_tracker (s : State) (m : Move) : (s.applyMove m).tracker = s.tracker := by
  obtain ⟨ch, gr, bu, mx, eg, rp, h⟩ := State.applyMove_touches s m
  rw [h]

@[simp] theorem State.applyMove_sweep (s : State) (m : Move) : (s.applyMove m).sweep = s.sweep := by
  obtain ⟨ch, gr, bu, mx, eg, rp, h⟩ := State.applyMove_touches s m
  rw [h]

/-- An application leaves an end of the queue (R142). -/
theorem State.applyDue_queue (n : Nat) (s : State) : ∃ k, k ≤ n ∧ (State.applyDue n s).queue = s.queue.drop k := by
  induction n generalizing s with
  | zero => exact ⟨0, by omega, rfl⟩
  | succ n ih =>
    unfold State.applyDue
    split
    · exact ⟨0, by omega, rfl⟩
    · split
      · exact ⟨0, by omega, rfl⟩
      · split
        · exact ⟨0, by omega, rfl⟩
        · rename_i e rest hq _ _
          obtain ⟨rp, hc⟩ := State.countDeferred_touches ({ s with queue := rest }.applyMove e.move) e.due
          obtain ⟨k, hk, h⟩ := ih (({ s with queue := rest }.applyMove e.move).countDeferred e.due)
          refine ⟨k + 1, by omega, ?_⟩
          rw [h, hc, hq]
          simp

/-- A buffer never holds more than four frames once it holds four or fewer (R10, R11). -/
theorem Elastic.join_length (b : Elastic) (f : BufFrame) (h : b.frames.length ≤ 4) : (b.join f).frames.length ≤ 4 := by
  unfold Elastic.join
  by_cases h4 : 4 ≤ b.frames.length <;> simp [elasticDepth, h4] <;> omega

/-- A take removes at most one frame (R12). -/
theorem Elastic.take_length (b : Elastic) : b.take.frames.length ≤ b.frames.length := by
  unfold Elastic.take
  split
  · exact Nat.le_refl _
  · exact Nat.le_refl _
  · split
    · exact Nat.le_refl _
    · rename_i f rest h
      simp [h]

/-- A take never changes a buffer's state (R12). -/
@[simp] theorem Elastic.take_state (b : Elastic) : b.take.state = b.state := by
  unfold Elastic.take
  split
  · rfl
  · rfl
  · split <;> rfl

end Sys2Proof.Machine
end

