-- ==== Sys2Proof/Laws/Report.lean ====
section
/-! SUPPORT. The flag and notice block: what setting an item, adding to a counter and composing a notice leave alone. -/

namespace Sys2Proof.Machine

/-! ### Composition -/

@[simp] theorem Report.compose_notices (r : Report) : r.compose.notices = r.notices := rfl

@[simp] theorem Report.compose_control (r : Report) : r.compose.control = r.control := rfl

@[simp] theorem Report.compose_counters (r : Report) : r.compose.counters = r.counters := rfl

@[simp] theorem Report.compose_txX (r : Report) : r.compose.laneX.tx = r.laneX.tx := rfl

@[simp] theorem Report.compose_txY (r : Report) : r.compose.laneY.tx = r.laneY.tx := rfl

/-- What no set of an item, no addition and no composition changes: the tables, and the messages in transmission. -/
def Report.SameTables (r q : Report) : Prop :=
  q.notices = r.notices ∧ q.control = r.control ∧ q.laneX.tx = r.laneX.tx ∧ q.laneY.tx = r.laneY.tx

theorem Report.SameTables.refl (r : Report) : r.SameTables r := ⟨rfl, rfl, rfl, rfl⟩

theorem Report.SameTables.trans {r q p : Report} (h : r.SameTables q) (k : q.SameTables p) : r.SameTables p :=
  ⟨k.1.trans h.1, k.2.1.trans h.2.1, k.2.2.1.trans h.2.2.1, k.2.2.2.trans h.2.2.2⟩

theorem Report.becomeDue_same (r : Report) : r.SameTables r.becomeDue ∧ r.becomeDue.counters = r.counters := by
  unfold Report.becomeDue
  simp only
  split <;> exact ⟨⟨rfl, rfl, rfl, rfl⟩, rfl⟩

theorem Report.composeIfDue_same (r : Report) : r.SameTables r.composeIfDue ∧ r.composeIfDue.counters = r.counters := by
  unfold Report.composeIfDue
  split <;> exact ⟨⟨rfl, rfl, rfl, rfl⟩, rfl⟩

theorem Report.addUnreported_same (r : Report) :
    r.SameTables r.addUnreported ∧ r.addUnreported.counters = r.counters := by
  unfold Report.addUnreported
  simp only
  split
  · obtain ⟨h1, h2⟩ := Report.becomeDue_same
      { r with
        unreported := min 15 (r.unreported + 1)
        timer := if r.unreported = 0 ∧ 1 ≤ r.control.coalTimer then some (r.control.coalTimer * 48) else r.timer }
    exact ⟨h1, h2⟩
  · exact ⟨⟨rfl, rfl, rfl, rfl⟩, rfl⟩

/-- Setting an item changes no table, no counter and no message in transmission (R174, R176 to R179). -/
theorem Report.setItem_same (r : Report) (i : Item) : r.SameTables (r.setItem i) ∧ (r.setItem i).counters = r.counters := by
  unfold Report.setItem
  split
  · exact ⟨Report.SameTables.refl r, rfl⟩
  · simp only
    split
    · exact ⟨⟨rfl, rfl, rfl, rfl⟩, rfl⟩
    · obtain ⟨h1, h2⟩ := Report.addUnreported_same
        { r with items := r.items.set (itemClass i) (r.items[itemClass i] ||| itemBit i) }
      exact ⟨h1, h2⟩

@[simp] theorem Report.setItem_counters (r : Report) (i : Item) : (r.setItem i).counters = r.counters :=
  (Report.setItem_same r i).2

@[simp] theorem Report.setItem_control (r : Report) (i : Item) : (r.setItem i).control = r.control :=
  (Report.setItem_same r i).1.2.1

@[simp] theorem Report.setItem_notices (r : Report) (i : Item) : (r.setItem i).notices = r.notices :=
  (Report.setItem_same r i).1.1

@[simp] theorem Report.setItem_txX (r : Report) (i : Item) : (r.setItem i).laneX.tx = r.laneX.tx :=
  (Report.setItem_same r i).1.2.2.1

@[simp] theorem Report.setItem_txY (r : Report) (i : Item) : (r.setItem i).laneY.tx = r.laneY.tx :=
  (Report.setItem_same r i).1.2.2.2

/-- An addition to a counter changes no table and no message in transmission (R183). -/
theorem Report.addCount_same (r : Report) (n : Fin 84) : r.SameTables (r.addCount n) := by
  unfold Report.addCount
  split
  · exact Report.SameTables.refl r
  · simp only
    split
    · exact (Report.setItem_same { r with counters := r.counters.set n (r.counters[n] + 1) } (.counter n)).1
    · exact ⟨rfl, rfl, rfl, rfl⟩

/-- What one addition makes of the bank (R183): the counter one higher, or as it was at the top. -/
theorem Report.addCount_counters (r : Report) (n : Fin 84) :
    (r.addCount n).counters = if 65535 ≤ r.counters[n] then r.counters else r.counters.set n (r.counters[n] + 1) := by
  unfold Report.addCount
  by_cases h : 65535 ≤ r.counters[n]
  · simp only [h, if_true]
  · simp only [h, if_false]
    split
    · exact (Report.setItem_same { r with counters := r.counters.set n (r.counters[n] + 1) } (.counter n)).2
    · rfl

@[simp] theorem Report.addCount_control (r : Report) (n : Fin 84) : (r.addCount n).control = r.control :=
  (Report.addCount_same r n).2.1

@[simp] theorem Report.addCount_notices (r : Report) (n : Fin 84) : (r.addCount n).notices = r.notices :=
  (Report.addCount_same r n).1

/-- Several additions are additions one after another. -/
theorem Report.addCounts_succ (r : Report) (n : Fin 84) (k : Nat) :
    r.addCounts n (k + 1) = (r.addCounts n k).addCount n := rfl

theorem Report.addCounts_same (r : Report) (n : Fin 84) (k : Nat) : r.SameTables (r.addCounts n k) := by
  induction k with
  | zero => exact Report.SameTables.refl r
  | succ k ih => exact ih.trans (Report.addCount_same _ n)

/-- The coalescing timer's step changes no table and no counter (R177). -/
theorem Report.lowerTimer_same (r : Report) : r.SameTables r.lowerTimer ∧ r.lowerTimer.counters = r.counters := by
  unfold Report.lowerTimer
  split
  · exact ⟨Report.SameTables.refl r, rfl⟩
  · split
    · exact Report.becomeDue_same r
    · exact ⟨⟨rfl, rfl, rfl, rfl⟩, rfl⟩

end Sys2Proof.Machine
end

