-- ==== Sys2Proof/Tests/Slice0.lean ====
section
/-! SUPPORT. Tests of the model against numbers of the manual, the refusals of the well-formedness check, and, for each
statement with hypotheses, a state and operands that meet them. -/

namespace Sys2Proof.Tests

-- One thread: Lean starts a thread for each kernel evaluation that waits, and check.sh limits the memory they may take.
set_option Elab.async false

open Sys2Proof.Machine

/-! ### Helpers -/

/-- The state after a command. -/
def after (c : Instr) (s : State) : State :=
  match exec c s with
  | .next t => t
  | .fault _ => s
  | .refused _ => s

/-- The payloads of the responses after a command. -/
def replies (c : Instr) (s : State) : List (List Octet) := (after c s).responses.map fun m => m.payload

def z : State := State.reset

/-- A frame of one slot, class 2, identity 31h, with the check of R3. -/
def frameOctets (pos : Position) (rolling : Bool) (sample : Int) (lane : List Octet) : List Octet :=
  (SentFrame.mk 2 rolling false false 1 0x31 pos (Vector.replicate 64 sample) lane 0).octets

def idleLane : List Octet := [0, 0, 0, 0]

def oneSlot : Announcement := ⟨2, 1, 0x31⟩

/-- A receiver in a state, with its announcement, counts and buffer. -/
def receiver (st : LinkState) (run bad : Nat) (buf : Elastic) : Receiver := ⟨st, some oneSlot, run, bad, zeroSamples, buf⟩

def withLink (l : Link) (r : Receiver) (s : State) : State := s.setLink l r

/-- Link A accepted and the clock locked, the transport rolling at 100. -/
def lockedAt (bad : Nat) : State :=
  { withLink .a (receiver .accepted 16 bad idleBuffer) z with clock := ⟨.locked, [], true, none⟩, tracker := ⟨100, true⟩ }

def withSlot (t : Fin 128) (x : Slot) (s : State) : State := { s with egress := s.egress.set t x }

def withReport (r : Report) (s : State) : State := { s with report := r }

/-! ### Well-formedness -/

theorem test_ill_formed_frame_refused : wellFormed (.passingFrame .b [0xB4, 0x20, 1, 0x31] 0 ⟨0, 0⟩) = false := by decide +kernel

theorem test_wrong_check_refused :
    wellFormed (.passingFrame .b ((frameOctets 7 true 5 idleLane).set 5 0xFF) 0 ⟨0, 0⟩) = false := by decide +kernel

theorem test_good_frame_admitted : wellFormed (.passingFrame .b (frameOctets 7 true 5 idleLane) 0 ⟨0, 0⟩) = true := by
  decide +kernel

theorem test_payload_of_59_refused : wellFormed (.writeTable 1 (List.replicate 59 0)) = false := by decide +kernel

theorem test_payload_of_58_admitted : wellFormed (.writeTable 1 (List.replicate 58 0)) = true := by decide +kernel

theorem test_known_kind_refused : wellFormed (.unknownCommandKind 0x10 1 []) = false := by decide +kernel

theorem test_unknown_kind_admitted : wellFormed (.unknownCommandKind 0x11 1 []) = true := by decide +kernel

/-! ### Arithmetic (the anchors of R60, the worked ramp of section 4.4, the worked case of section 6.3, section 7.7) -/

theorem test_multipliers : ([-960, -40, -48, -80, 0, 144].map fun x : Int => multiplier [x]) = [0, 36854, 32846, 20724, 65536, 520571] := by
  decide +kernel

/-- Section 6.3: channel 13 of bus 5, channel 15 with its mute component at −960, channel 16 at −850. -/
theorem test_effective_codes :
    ([[-24, -16, 0, 0], [96, 0, 0, -960], [-850, 0, 0, 0]] : List (List Int)).map multiplier = [36854, 0, 0] := by decide +kernel

/-- Section 4.4: the ramp from −80 to 0 over 48, then from −40 to −80 over 96. -/
theorem test_worked_ramp :
    ([1, 2, 3, 12, 24].map fun k => (Ramp.mk (-80) 0 48 k).cur) = [-79, -77, -75, -60, -40] ∧
      ([1, 2, 3, 48, 95, 96].map fun k => (Ramp.mk (-40) (-80) 96 k).cur) = [-40, -40, -41, -60, -79, -80] := by decide +kernel

/-- Section 6.3: the accumulators of buses 5 and 40. -/
theorem test_worked_sums :
    busResult 139244000000 65536 = ⟨2124695, false⟩ ∧ busResult 40706011520 20724 = ⟨196414, false⟩ := by decide +kernel

/-- Section 7.7: outputs at positions 1, 12, 20, 19, 48 of 48. -/
theorem test_worked_crossfade :
    ([1, 12, 20, 19, 48].map fun k => crossfade 1000000 (-200000) k 48) = [-175000, 100000, 300000, 275000, 1000000] := by
  decide +kernel

/-! ### Links, clock, transport -/

def bufferOf (n : Nat) : Elastic := ⟨.running, List.replicate n (.received zeroSamples), zeroSamples⟩

/-- R10, R27: the sixteenth frame with one announcement accepts link C, and joins its buffer. -/
theorem test_passing_frame_accepts :
    let t := after (.passingFrame .c (frameOctets 0 false 5 idleLane) 0 ⟨0, 0⟩) (withLink .c (receiver .sensing 15 0 idleBuffer) z)
    (t.link .c).state = .accepted ∧ (t.link .c).buf.state = .priming ∧ (t.link .c).buf.frames.length = 1 ∧
      t.report.items[(0 : Fin 8)] = 4#128 := by decide +kernel

/-- R133, R135: a position other than the expected one is a jump, which empties the queue. -/
theorem test_passing_frame_jumps :
    let s := { lockedAt 0 with queue := [⟨200, .punchIn 3⟩] }
    (after (.passingFrame .a (frameOctets 103 true 5 idleLane) 20833333 ⟨0, 0⟩) s).queue = [] ∧
      (after (.passingFrame .a (frameOctets 101 true 5 idleLane) 20833333 ⟨0, 0⟩) s).queue.length = 1 := by decide +kernel

/-- R11: a bad frame joins a full buffer as a repeat, and the oldest frame is lost: BAD_FRAMES, REPEATS and SLIPS of C. -/
theorem test_bad_frame_slips :
    let t := after (.badFrame .c 0) (withLink .c (receiver .accepted 16 0 (bufferOf 4)) z)
    (t.link .c).buf.frames.length = 4 ∧ (t.link .c).badRun = 1 ∧
      [t.report.counters[(5 : Fin 84)], t.report.counters[(6 : Fin 84)], t.report.counters[(7 : Fin 84)]] = [1, 1, 1] := by
  decide +kernel

/-- R18: a failed frame of link A carries the expected position, which wraps. -/
theorem test_bad_frame_carries_position :
    (after (.badFrame .a 0) { lockedAt 6 with tracker := ⟨4294967295, true⟩ }).tracker = ⟨0, true⟩ := by decide +kernel

/-- R7, R14, R28: the eighth failed frame loses link A, the clock goes FREE and the transport stops; REPEATS does not count. -/
theorem test_missing_frame_loses_link :
    let t := after (.missingFrame .a) (lockedAt 7)
    (t.link .a).state = .absent ∧ t.clock.state = .free ∧ t.tracker = ⟨100, false⟩ ∧ t.report.items[(0 : Fin 8)] = 17#128 ∧
      t.report.counters[(1 : Fin 84)] = 0 := by decide +kernel

/-- R16, R19, R132: an oscillator period sends a pair with LOCKED clear and leaves the transport stopped. -/
theorem test_oscillator_period :
    let t := after .oscillatorPeriod { z with tracker := ⟨9, true⟩ }
    t.tracker = ⟨9, false⟩ ∧ (t.sent.map fun p => (p.x.ident, p.y.ident, p.x.locked)) = some (0, 1, false) := by decide +kernel

/-- R185: RESET/START_UP is the only set item. -/
theorem test_start_up_reset :
    ((List.finRange 8).map fun c => (after .startUpReset (lockedAt 3)).report.items[c]) = [0, 0, 0, 0, 0, 0, 0, 1] := by
  decide +kernel

/-! ### The events inside an engine frame -/

/-- Crosspoints (16, 0) and (16, 1) of the matrix below go from −960 toward `u` and `t`. -/
def busyCell (k : Fin 48) (u t : Int) (r c : Nat) : Xp :=
  if r < 16 then ⟨(Ramp.mk (-960) 0 48 k.val).cur, 0, false⟩
  else if r = 16 ∧ c = 0 then ⟨-960, u, true⟩
  else if r = 16 ∧ c = 1 then ⟨-960, t, true⟩
  else Xp.off

/-- Entry i of the pool below: crosspoint i of rows 0..15, at step k of 48 toward 0. -/
def busyEntry (k : Fin 48) (i : Fin 1024) : PoolEntry :=
  ⟨⟨i.val / 64, by omega⟩, ⟨i.val % 64, by omega⟩, ⟨-960, 0, 48, k.val⟩⟩

def busyPool (k : Fin 48) : List PoolEntry := (List.finRange 1024).map (busyEntry k)

/-- A pool wholly in use, each entry of rows 0..15 at step k, and two crosspoints waiting. -/
def rampingMatrix (k : Fin 48) (u t : Int) : Matrix :=
  { cells := Vector.ofFn fun r => Vector.ofFn fun c => busyCell k u t r.val c.val
    pool := busyPool k
    waiting := [⟨16, 0, 2⟩, ⟨16, 1, 2⟩] }

/-- Each entry one step short of its end, (16, 0) waiting at its target and (16, 1) behind it. -/
def busyMatrix (t : Int) : Matrix := rampingMatrix 47 (-960) t

/-- R76: the freed entry passes over (16, 0) and goes to (16, 1), as at e3 and e2 of section 4.5. -/
theorem test_ramp_completion_hands_on :
    let t := after (.rampCompletion 0 0) { z with matrix := busyMatrix (-80) }
    t.matrix.waiting = [] ∧ t.matrix.pool.length = 1024 ∧ t.matrix.entry 16 1 = some ⟨16, 1, ⟨-960, -80, 96, 0⟩⟩ ∧
      t.matrix.cell 0 0 = ⟨0, 0, false⟩ := by decide +kernel

/-- Section 7.7, engine frame 58. -/
theorem test_punch_arrival :
    let t := after (.punchArrival 70) (withSlot 70 ⟨.punch 40 180 .toLive 47, 1⟩ z)
    t.egress[(70 : Fin 128)] = ⟨.punch 40 180 .live 48, 1⟩ ∧ t.report.items[(4 : Fin 8)] = 1#128 <<< 70 := by decide +kernel

/-- R97. -/
theorem test_sweep_completion : (after .sweepCompletion { z with sweep := .inFlight 0 128 }).sweep = .idle := by decide +kernel

/-- The report block at e9 of section 10.8: CLIP on X in ON_REPORT, QUEUE on both in ON_WRITE; CLIP/43, CLIP/44, QUEUE/DEFERRED
and QUEUE/LOW set. -/
def noticeReport : Report :=
  { z.report with
    items := ((z.report.items.set 7 0).set 1 (3#128 <<< 43)).set 2 0x14
    notices := (z.report.notices.set 1 ⟨.x, .onReport⟩).set 2 ⟨.both, .onWrite⟩
    control := ⟨3, 2, 4, 4⟩
    unreported := 3
    due := true }

/-- Section 10.8, e10: copies of 17 and 8 octets; the CLIP items go, the QUEUE items stay. -/
theorem test_notice_composition :
    let t := after .noticeComposition (withReport noticeReport z)
    t.report.laneX.waiting.map List.length = some 17 ∧ t.report.laneY.waiting.map List.length = some 8 ∧
      t.report.items[(1 : Fin 8)] = 0 ∧ t.report.items[(2 : Fin 8)] = 0x14 ∧ t.report.unreported = 0 := by decide +kernel

/-- R177: the timer's last frame makes a notice due; the payload of Y's copy is the QUEUE entry. -/
theorem test_coalescing_timer_expiry :
    let t := after .coalescingTimerExpiry (withReport { noticeReport with due := false, unreported := 1, timer := some 1 } z)
    t.report.timer = none ∧ t.report.laneY.waiting.map (fun o => (o.drop 4).take 2) = some [2, 0x14] := by decide +kernel

/-! ### The commands of the console controller -/

/-- R163: the snapshot after start-up. -/
theorem test_status : replies (.status 3 []) z = [0 :: List.replicate 30 0 ++ [16]] := by decide +kernel

/-- R158: a response carries the command's kind plus 80h and its tag. -/
theorem test_status_header : (after (.status 3 []) z).responses.map (fun m => (m.kind, m.tag)) = [(0x81, 3)] := by decide +kernel

/-- R43, R164, R172: the last SOURCE record at its start-up value; four were asked for. -/
theorem test_read_table : replies (.readTable 3 [0, 191, 4]) z = [[1, 1, 0, 0, 0xFF, 0, 3]] := by decide +kernel

/-- Section 3.1: window 5 overlaps window 8; window 4 is written. -/
theorem test_write_table_overlap :
    let s := { z with ingress := z.ingress.set 8 ⟨true, 0, 7, 48⟩ }
    replies (.writeTable 3 [4, 4, 1, 0, 7, 40, 1, 8, 11, 48, 1, 0, 1, 60]) s = [[5, 1]] := by decide +kernel

/-- A matrix where buses 8 and 39 feed bus 40, and their tiers, as in section 5.2. -/
def layout : State :=
  { z with
    matrix := (z.matrix.setCell 200 40 ⟨0, 0, false⟩).setCell 231 40 ⟨-48, -48, false⟩
    buses := z.buses.set 40 { z.buses[(40 : Fin 64)] with tier := 1 } }

/-- Section 5.2: the premix first is refused with TIER; the stem first is written, all three records. -/
theorem test_write_table_tiers :
    replies (.writeTable 3 [1, 8, 1, 0, 0, 0, 3]) layout = [[4, 0]] ∧
      replies (.writeTable 3 [1, 40, 2, 0, 0, 0, 3]) layout = [[0, 1]] := by decide +kernel

/-- Section 7.7: the class of a moving slot is refused with BUSY. -/
theorem test_write_field_busy :
    replies (.writeField 3 [5, 70, 3, 0, 3]) (withSlot 70 ⟨.punch 40 180 .toReplay 15, 1⟩ z) = [[2]] := by decide +kernel

/-- R126: in LIVE the class is taken and the position follows it. -/
theorem test_write_field_live :
    (after (.writeField 3 [5, 70, 3, 0, 3]) (withSlot 70 ⟨.punch 40 180 .live 48, 1⟩ z)).egress[(70 : Fin 128)] =
      ⟨.punch 40 180 .live 240, 3⟩ := by decide +kernel

/-- The window of section 5.3. -/
def columnWindow : State := after (.setWindow 1 [10, 12, 4, 5, 1, 1, 0]) z

theorem test_set_window : (columnWindow.window.row, columnWindow.window.col) = (12, 4) := by decide +kernel

theorem test_set_window_range : replies (.setWindow 1 [10, 9, 4, 5, 1, 1, 0]) z = [[3]] := by decide +kernel

/-- Section 5.3: after eight codes, the last KEEP, the counter stands at the third cell and (12, 4) goes to −40. -/
theorem test_write_gains :
    let t := after (.writeGains 1 ([2, 0xFF, 0xB0, 0xFF, 0xB0, 0xFF, 0xB0, 0xFF, 0x88, 0xFF, 0x88, 0xFF, 0x88, 0xFF, 0xD8, 0x80, 0]))
      { columnWindow with responses := [] }
    t.responses.map (fun m => m.payload) = [[0, 0]] ∧ (t.window.row, t.window.col) = (10, 4) ∧
      t.matrix.entry 12 4 = some ⟨12, 4, ⟨-960, -40, 96, 0⟩⟩ := by decide +kernel

/-- Section 5.2: rows 200..201 by columns 39..40; the first cell is illegal, and the response says TIER and 1. -/
theorem test_write_gains_tier :
    replies (.writeGains 1 [3, 0, 0, 0, 0, 0x80, 0, 0xFF, 0xD0])
      { layout with window := ⟨200, 201, 39, 40, .rows, .up, .up, 200, 39⟩ } = [[4, 1]] := by decide +kernel

/-- R93: the pairs of two cells of the layout. -/
theorem test_read_gains :
    replies (.readGains 1 [2]) { layout with window := ⟨231, 231, 39, 40, .rows, .up, .up, 231, 39⟩ } =
      [[0, 0xFC, 0x40, 0xFC, 0x40, 0xFF, 0xD0, 0xFF, 0xD0]] := by decide +kernel

theorem test_matrix_clear : (after (.matrixClear 1 [3]) z).sweep = .inFlight 3 16384 := by decide +kernel

theorem test_matrix_clear_busy : replies (.matrixClear 1 [3]) { z with sweep := .inFlight 3 9984 } = [[2]] := by decide +kernel

/-- Section 8.8: the transport parked at 2,008 with Q11 and Q12 queued. -/
def parked : State :=
  { z with
    tracker := ⟨2008, false⟩
    queue := [⟨2008, .punchIn 70⟩, ⟨2020, .busLevel 40 (-80) 4⟩]
    report := { z.report with control := ⟨1, 0, 1, 4⟩ } }

def q13 : List Octet := [0, 0, 0x07, 0xD8, 5, 20, 0, 0, 0, 1]

def q14 : List Octet := [0, 0, 0x07, 0xD6, 2, 12, 0, 0xFF, 0xF0, 1]

/-- Section 8.8: Q13 takes its place behind Q11, Q14 is late and applied at once. -/
theorem test_queue_events :
    let t := after (.queueEvents 1 (q13 ++ q14)) parked
    t.responses.map (fun m => m.payload) = [[0, 2]] ∧
      t.queue = [⟨2008, .punchIn 70⟩, ⟨2008, .srcMute 20 true⟩, ⟨2020, .busLevel 40 (-80) 4⟩] ∧
      t.chans[(12 : Fin 192)].trim = ⟨0, -16, 48, 0⟩ ∧ t.report.items[(2 : Fin 8)] = 2 := by decide +kernel

/-- R148, R149: two events flushed, through a low mark of 1. -/
theorem test_flush_queue :
    let t := after (.flushQueue 1 []) parked
    t.queue = [] ∧ t.report.counters[(17 : Fin 84)] = 2 ∧ t.report.items[(2 : Fin 8)] = 16 := by decide +kernel

/-- Section 7.7: punched out at position 20. -/
theorem test_punch_reverses :
    let t := after (.punch 1 [70, 1, 0]) (withSlot 70 ⟨.punch 40 180 .toLive 20, 1⟩ z)
    t.egress[(70 : Fin 128)] = ⟨.punch 40 180 .toReplay 20, 1⟩ ∧ t.report.items[(4 : Fin 8)] = 0 := by decide +kernel

/-- R127: a slot of the run is not a PUNCH slot. -/
theorem test_punch_partial :
    replies (.punch 1 [70, 2, 1]) (withSlot 70 ⟨.punch 40 180 .replay 0, 1⟩ z) = [[1, 1]] := by decide +kernel

/-- R180: the bitmaps after start-up, 40 octets, the last RESET/START_UP; the class is ON_REPORT. -/
theorem test_read_flags :
    replies (.readFlags 1 []) z = [0 :: List.replicate 39 0 ++ [1]] ∧ (after (.readFlags 1 []) z).report.items[(7 : Fin 8)] = 0 := by
  decide +kernel

theorem test_clear_flags :
    (after (.clearFlags 1 (2 :: 0x04 :: List.replicate 15 0)) (withReport noticeReport z)).report.items[(2 : Fin 8)] = 0x10 := by
  decide +kernel

theorem test_test_and_clear :
    replies (.testAndClear 1 (2 :: 0x0F :: List.replicate 15 0)) (withReport noticeReport z) =
      [0 :: 2 :: 0x04 :: List.replicate 15 0] := by decide +kernel

theorem test_read_counters :
    let s := withReport (z.report.addCounts 17 300) z
    replies (.readCounters 1 [16, 2, 1]) s = [[0, 0, 0, 1, 0x2C]] ∧
      (after (.readCounters 1 [16, 2, 1]) s).report.counters[(17 : Fin 84)] = 0 := by decide +kernel

/-- R79, R130, R185. -/
theorem test_engine_reset :
    let s := { withSlot 70 ⟨.punch 40 180 .toLive 20, 1⟩ layout with queue := parked.queue }
    (after (.engineReset 1 []) s).egress[(70 : Fin 128)] = ⟨.punch 40 180 .live 48, 1⟩ ∧
      (after (.engineReset 1 []) s).queue = [] ∧ (after (.engineReset 1 []) s).report.items[(7 : Fin 8)] = 2 := by decide +kernel

/-- R158: the kinds 11h and F0h. -/
theorem test_unknown_kind :
    (after (.unknownCommandKind 0x11 1 [5]) z).responses.map (fun m => (m.kind, m.payload)) = [(0x91, [7])] ∧
      (after (.unknownCommandKind 0xF0 1 [5]) z).responses.map (fun m => (m.kind, m.payload)) = [(0xFF, [7])] := by
  decide +kernel

/-! ### States and operands that meet the hypotheses of the statements

`witness_<Name>` is for the statement `Obligations.<Name>`. Where a statement has several clauses, each has its conjunct or
group of conjuncts, at the ends of the ranges that its hypotheses name. -/

theorem ready_z : z.ready := ⟨rfl, by decide⟩

theorem witness_StepRunsFrontCommand :
    { z with pending := [.missingFrame .b, .oscillatorPeriod] }.pending = .missingFrame .b :: [.oscillatorPeriod] := rfl

def someMessage : Message := ⟨0x01, 0xFF, []⟩

/-- A response queue of n. -/
def withResponses (n : Nat) (s : State) : State := { s with responses := List.replicate n someMessage }

/-- A command queue of n. -/
def withCommands (n : Nat) (s : State) : State := { s with commands := List.replicate n someMessage }

theorem witness_EmptyQueueTakesOldestMessage :
    (z.pending = [] ∧ z.commands = []) ∧
    ((withResponses 16 (withCommands 3 z)).pending = [] ∧ 16 ≤ (withResponses 16 (withCommands 3 z)).responses.length) ∧
    ((withResponses 15 (withCommands 3 z)).pending = [] ∧
      (withResponses 15 (withCommands 3 z)).commands = someMessage :: List.replicate 2 someMessage ∧
      (withResponses 15 (withCommands 3 z)).responses.length < 16) ∧
    (messageOf (.status 0xFF []) = some someMessage ∧ z.commands = [] ∧ z.responses.length < 16) := by decide +kernel

/-- A message of 58 payload octets, one of them C3h, with idle octets about it and cut into words of seven octets. -/
def longMessage : Message := ⟨0x03, 0x11, 0xC3 :: List.replicate 57 0⟩

def cutWords : List (List Octet) := records 7 ([0, 0xFF, 0x55] ++ longMessage.octets ++ [1])

theorem witness_FramerDeliversWholeMessage :
    (withCommands 15 z).framer = .hunt ∧ longMessage.payload.length ≤ 58 ∧ (withCommands 15 z).commands.length < 16 ∧
      (∀ o ∈ [0, 0xFF, 0x55] ++ [1], o ≠ 0xC3#8) ∧ cutWords.flatten = [0, 0xFF, 0x55] ++ longMessage.octets ++ [1] := by
  decide +kernel

/-- A frame of n slots whose samples are the two ends of the range. -/
def edgeFrame (n : Nat) : SentFrame :=
  ⟨0xF, true, true, true, n, 0xFF, 0xFFFFFFFF,
    Vector.ofFn fun i => if i.val % 2 = 0 then -8388608 else 8388607, [0xC3, 0, 0xFF, 1], 0xFF⟩

/-- A good frame of one slot, and with it another marker, no slot, a slot too many, an octet too few, or a check that differs. -/
def brokenFrames : List (List Octet) :=
  let good := frameOctets 7 true 5 idleLane
  [good.set 0 0xB5, good.set 2 0, good.set 2 65, good.dropLast, good.set 19 (~~~good.getLast!)]

theorem witness_ReceiverTakesFrameAsSent_refused :
    let slots := fun o : List Octet => (o.getD 2 0).toNat % 128
    let at_ := fun i => brokenFrames.getD i []
    (at_ 0).getD 0 0 ≠ 0xB4#8 ∧ slots (at_ 1) = 0 ∧ 64 < slots (at_ 2) ∧ (at_ 3).length ≠ 4 * (slots (at_ 3) + 4) ∧
      crc16 ((at_ 4).take 18) ≠ ((at_ 4).getD 18 0 ++ (at_ 4).getD 19 0 : BitVec 16) ∧
      ∀ o ∈ brokenFrames, parseFrame o = none := by decide +kernel

theorem witness_ReceiverTakesFrameAsSent :
    ∀ n ∈ [1, 64], 1 ≤ (edgeFrame n).slots ∧ (edgeFrame n).slots ≤ 64 ∧ (edgeFrame n).lane.length = 4 ∧
      ∀ i : Fin 64, -8388608 ≤ (edgeFrame n).samples[i] ∧ (edgeFrame n).samples[i] ≤ 8388607 := by decide +kernel

def withFramer (f : Framer) (s : State) : State := { s with framer := f }

/-- STATUS with tag FFh but for its last octet. -/
def allButLast : List Octet := someMessage.octets.dropLast

theorem witness_FramerStates :
    (z.framer = .hunt ∧ (0xC3 : Octet) = 0xC3#8 ∧ (0xC4 : Octet) ≠ 0xC3#8) ∧
    ((withFramer .length z).framer = .length ∧ (5 : Octet).toNat < 6 ∧ 64 < (65 : Octet).toNat) ∧
    (6 ≤ (6 : Octet).toNat ∧ (64 : Octet).toNat ≤ 64) ∧
    ((withFramer (.body [0xC3, 7, 1, 2, 3]) z).framer = .body [0xC3, 7, 1, 2, 3] ∧ 2 ≤ [0xC3, 7, 1, 2, 3].length ∧
      [0xC3, 7, 1, 2, 3].length + 1 < (([0xC3, 7, 1, 2, 3] : List Octet).getD 1 0).toNat) ∧
    ((withFramer (.body allButLast) z).framer = .body allButLast ∧ 2 ≤ allButLast.length ∧
      6 ≤ (allButLast.getD 1 0).toNat ∧ allButLast.length + 1 = (allButLast.getD 1 0).toNat) ∧
    (let agrees := fun all : List Octet =>
      crc16 ((all.drop 1).take (all.length - 3)) = all.getD (all.length - 2) 0 ++ all.getD (all.length - 1) 0;
      agrees (allButLast ++ [someMessage.octets.getLast!]) ∧ ¬agrees (allButLast ++ [~~~someMessage.octets.getLast!])) ∧
    (withCommands 15 z).commands.length < 16 ∧ 16 ≤ (withCommands 16 z).commands.length := by decide +kernel

/-- Room for one response: at a command queue of 16 a message is dropped, at one of three it joins, and one message is taken. -/
theorem witness_MessageWaitsOrIsDropped :
    messageOf (.status 0xFF []) = some someMessage ∧
    (∀ n ∈ [15, 16], 16 ≤ (withResponses 16 (withCommands n z)).responses.length) ∧
    (∀ n ∈ [3, 16],
      let s := withResponses 15 (withCommands n z)
      let handed := if s.commands.length < 16 then { s with commands := s.commands ++ [someMessage] }
        else { s with report := (s.report.addCount 14).setItem .dropped }
      ∃ states : Nat → State, states 0 = handed ∧
        (∀ j, j < 1 → ∃ oldest rest, (states j).commands = oldest :: rest ∧ (states j).responses.length < 16 ∧
          states (j + 1) = { states j with commands := rest }.execute oldest) ∧
        16 ≤ (states 1).responses.length) := by
  refine ⟨by decide, by decide +kernel, fun n hn => ?_⟩
  intro s handed
  refine ⟨fun j => if j = 0 then handed else { handed with commands := handed.commands.tail }.execute someMessage, rfl, ?_, ?_⟩
  · intro j hj
    obtain rfl : j = 0 := by omega
    obtain rfl | rfl : n = 3 ∨ n = 16 := by simpa using hn
    · exact ⟨someMessage, List.replicate 3 someMessage, by decide +kernel, by decide +kernel, rfl⟩
    · exact ⟨someMessage, List.replicate 15 someMessage, by decide +kernel, by decide +kernel, rfl⟩
  · simp only [Nat.one_ne_zero, if_false, State.execute_responses]
    obtain rfl | rfl : n = 3 ∨ n = 16 := by simpa using hn
    · decide +kernel
    · decide +kernel

theorem witness_UnknownKindAnsweredBadKind :
    z.ready ∧ (0 : Octet).toNat = 0 ∧ 16 < (17 : Octet).toNat ∧ 16 < (0xFF : Octet).toNat := ⟨ready_z, by decide +kernel⟩

/-- Payloads of n octets 00h. -/
def zeros (n : Nat) : List Octet := List.replicate n 0

theorem witness_WrongLengthAnsweredBadLen :
    z.ready ∧ (zeros 1).length ≠ 0 ∧ (zeros 2).length ≠ 3 ∧ (zeros 1).length < 2 ∧
    (2 ≤ (zeros 2).length ∧ ((zeros 2).getD 0 0).toNat = (0 : Fin 8).val ∧ (zeros 2).length = 2) ∧
    (2 ≤ (zeros 8).length ∧ ((zeros 8).getD 0 0).toNat = (0 : Fin 8).val ∧ ((zeros 8).length - 2) % recordSize 0 ≠ 0) ∧
    (zeros 6).length ≠ 5 ∧ (zeros 8).length ≠ 7 ∧ (zeros 2).length < 3 ∧ 53 < (zeros 55).length ∧ (zeros 4).length % 2 = 0 ∧
    (zeros 0).length ≠ 1 ∧ (zeros 0).length = 0 ∧ 50 < (zeros 58).length ∧ (zeros 11).length % 10 ≠ 0 ∧
    (zeros 16).length ≠ 17 := ⟨ready_z, by decide +kernel⟩

theorem witness_StatusReturnsSnapshot :
    z.ready ∧ (withResponses 15 (withCommands 16 z)).pending = [] ∧
    (withResponses 15 (withCommands 16 z)).commands = ⟨0x01, 0xFF, []⟩ :: List.replicate 15 someMessage ∧
    (withResponses 15 (withCommands 16 z)).responses.length < 16 := ⟨ready_z, by decide +kernel⟩

theorem witness_ReadTableReturnsRecords :
    z.ready ∧ 7 < (8 : Octet).toNat ∧ (0 : Octet).toNat = (0 : Fin 8).val ∧ (0 : Octet).toNat = 0 ∧
    [192, 64, 32, 16, 16, 128, 8, 1].getD (0 : Fin 8).val 0 ≤ (192 : Octet).toNat ∧ 1 ≤ (255 : Octet).toNat ∧
    (191 : Octet).toNat < [192, 64, 32, 16, 16, 128, 8, 1].getD (0 : Fin 8).val 0 := ⟨ready_z, by decide +kernel⟩

theorem witness_WriteSourceRecord :
    z.ready ∧ 191 < (192 : Octet).toNat ∧ (31 < (32 : Octet).toNat ∧ (32 : Octet).toNat ≠ 255) ∧ 1 < (0x20 : Octet).toNat / 16 ∧
    1 < (0x02 : Octet).toNat % 16 ∧ 7 < (8 : Octet).toNat ∧
    ((191 : Octet).toNat = (191 : Fin 192).val ∧ (255 : Octet).toNat = 255 ∧ (31 : Octet).toNat = (31 : Fin 32).val ∧
      (0x11 : Octet).toNat / 16 ≤ 1 ∧ (0x11 : Octet).toNat % 16 ≤ 1 ∧ (7 : Octet).toNat = (7 : Fin 8).val) :=
  ⟨ready_z, by decide +kernel⟩

/-- Bus 8 to tier 1 is refused in the layout of section 5.2, to its own tier 0 it is not. -/
theorem witness_WriteBusRecord :
    layout.ready ∧ (63 < (64 : Octet).toNat ∧ 3 < (4 : Octet).toNat ∧ 1 < (2 : Octet).toNat ∧ 7 < (8 : Octet).toNat) ∧
    (1 : Octet).toNat ≤ 1 ∧ (7 : Octet).toNat = (7 : Fin 8).val ∧
    (let nonOff := fun x : Xp => x.cur ≠ -960 ∨ x.tgt ≠ -960;
      let refused := fun tier : Fin 4 => tier ≠ layout.buses[(8 : Fin 64)].tier ∧ ∃ c : Fin 64, c ≠ 8 ∧
        ((nonOff (layout.matrix.cell (busRow 8) c) ∧ layout.buses[c].tier ≤ tier) ∨
          (nonOff (layout.matrix.cell (busRow c) 8) ∧ tier ≤ layout.buses[c].tier));
      refused 1 ∧ ¬refused 0) :=
  ⟨⟨rfl, by decide⟩, by decide, by decide, by decide, ⟨by decide +kernel, 40, by decide +kernel⟩, fun h => h.1 (by decide +kernel)⟩

theorem witness_WriteGroupNoticeControl :
    z.ready ∧ (7 : Octet).toNat = (7 : Fin 8).val ∧ (31 < (32 : Octet).toNat ∧ 7 < (8 : Octet).toNat) ∧
    (3 < (4 : Octet).toNat ∧ 1 < (2 : Octet).toNat) ∧
    (let inRange := fun (idx count timer hi lo hold : Octet) =>
      idx.toNat = 0 ∧ 1 ≤ count.toNat ∧ count.toNat ≤ 15 ∧ timer.toNat ≤ 63 ∧ (hi ++ lo : BitVec 16).toNat ≤ 511 ∧ hold.toNat ≤ 15;
      inRange 0 1 63 0x01 0xFF 15 ∧ ¬inRange 1 1 0 0 0 0 ∧ ¬inRange 0 0 0 0 0 0 ∧ ¬inRange 0 16 0 0 0 0 ∧ ¬inRange 0 1 64 0 0 0 ∧
        ¬inRange 0 1 0 0x02 0 0 ∧ ¬inRange 0 1 0 0 0 16) := ⟨ready_z, by decide +kernel⟩

/-- Link B accepted with class 2 and one slot. -/
def linkB : State := withLink .b (receiver .accepted 16 0 ⟨.running, [], zeroSamples⟩) z

theorem linkB_ann (l : Link) (n : Announcement) (h : (linkB.link l).ann = some n) : l = .b ∧ n = oneSlot := by
  cases l
  · exact nomatch (by decide +kernel : (linkB.link .a).ann = none).symm.trans h
  · exact ⟨rfl, Option.some.inj (h.symm.trans (by decide +kernel : (linkB.link .b).ann = some oneSlot))⟩
  · exact nomatch (by decide +kernel : (linkB.link .c).ann = none).symm.trans h
  · exact nomatch (by decide +kernel : (linkB.link .d).ann = none).symm.trans h

theorem alone (s : State) (l : Link) (k : Fin 16) (h : ∀ l', l' ≠ l → (s.link l').ann = none) :
    ∀ (l' : Link) (n' : Announcement), l' ≠ l → (s.link l').ann = some n' → n'.cls ≠ k :=
  fun l' _ hl hn => nomatch (h l' hl).symm.trans hn

/-- Link A accepted, the only link with an announcement; link B likewise in REJECTED and in SENSING. -/
theorem witness_WriteAcceptRecord :
    linkB.ready ∧ (15 < (16 : Octet).toNat ∧ 1 < (2 : Octet).toNat ∧ (0 : Octet).toNat = 0 ∧ (4 : Octet).toNat < (5 : Octet).toNat ∧
      64 < (65 : Octet).toNat) ∧
    ((1 : Octet).toNat ≤ 1 ∧ 1 ≤ (2 : Octet).toNat ∧ (2 : Octet).toNat ≤ (64 : Octet).toNat ∧ (64 : Octet).toNat ≤ 64) ∧
    (∀ (l : Link) (n : Announcement), (linkB.link l).ann = some n → n.cls ≠ 3) ∧
    ((lockedAt 0).ready ∧ ((lockedAt 0).link .a).state = .accepted ∧ ((lockedAt 0).link .a).ann = some oneSlot ∧ oneSlot.cls = 2 ∧
      (∀ (l' : Link) (n' : Announcement), l' ≠ .a → ((lockedAt 0).link l').ann = some n' → n'.cls ≠ 2)) ∧
    (∀ st ∈ [LinkState.rejected, .sensing],
      let s := withLink .b (receiver st 3 0 idleBuffer) z
      s.ready ∧ (s.link .b).state = st ∧ (s.link .b).ann = some oneSlot ∧
        ∀ (l' : Link) (n' : Announcement), l' ≠ .b → (s.link l').ann = some n' → n'.cls ≠ 2) ∧
    ((1 : Octet).toNat ≤ oneSlot.slots ∧ oneSlot.slots ≤ (1 : Octet).toNat ∧ ¬(2 : Octet).toNat ≤ oneSlot.slots) := by
  refine ⟨⟨rfl, by decide⟩, by decide +kernel, by decide +kernel, ?_, ⟨⟨rfl, by decide⟩, rfl, rfl, rfl, alone _ _ _ ?_⟩, ?_,
    by decide⟩
  · intro l n h
    rw [(linkB_ann l n h).2]
    decide
  · intro l h
    cases l <;> first | exact absurd rfl h | rfl
  · intro st _
    refine ⟨⟨rfl, Nat.zero_lt_succ 15⟩, rfl, rfl, alone _ _ _ ?_⟩
    intro l h
    cases l <;> first | exact absurd rfl h | rfl

theorem covers_off (w : Window) (i : Nat) (h : w.enabled = false) : w.covers i = false := by simp [Window.covers, h]

/-- Window 8 feeds channels 48..55. -/
def windows : State := { z with ingress := z.ingress.set 8 ⟨true, 0, 7, 48⟩ }

theorem windows_off : ∀ v : Fin 16, v ≠ 8 → windows.ingress[v].enabled = false := by decide +kernel

theorem witness_WriteIngressRecord :
    windows.ready ∧
    (15 < (16 : Octet).toNat ∧ 1 < (2 : Octet).toNat ∧ (0 : Octet).toNat < (1 : Octet).toNat ∧ 63 < (64 : Octet).toNat ∧
      191 < (192 : Octet).toNat ∧ (0 : Octet).toNat ≤ (1 : Octet).toNat ∧
      191 < (191 : Octet).toNat + ((1 : Octet).toNat - (0 : Octet).toNat)) ∧
    ((1 : Octet).toNat ≤ 1 ∧ (0 : Octet).toNat ≤ (63 : Octet).toNat ∧ (63 : Octet).toNat ≤ 63 ∧
      (128 : Octet).toNat + ((63 : Octet).toNat - (0 : Octet).toNat) ≤ 191) ∧
    (let covers := fun (w : Window) (i : Nat) => w.enabled = true ∧ w.chan ≤ i ∧ i ≤ w.chan + (w.last - w.first);
      (∀ w : Fin 16, ¬covers windows.ingress[w] 47) ∧
      (∀ i ∈ [48, 55], covers windows.ingress[(8 : Fin 16)] i ∧ ∀ v : Fin 16, covers windows.ingress[v] i → v = 8) ∧
      (∃ (v : Fin 16) (i : Nat), v ≠ 5 ∧ windows.ingress[v].first ≤ windows.ingress[v].last ∧
        covers windows.ingress[v] i ∧ covers ⟨true, 8, 11, 48⟩ i) ∧
      ¬∃ (v : Fin 16) (i : Nat), v ≠ 8 ∧ windows.ingress[v].first ≤ windows.ingress[v].last ∧
        covers windows.ingress[v] i ∧ covers ⟨true, 0, 3, 52⟩ i) ∧
    (∀ v : Fin 16, windows.ingress[v].first ≤ windows.ingress[v].last) := by
  refine ⟨⟨rfl, by decide⟩, by decide, by decide +kernel, ⟨by decide +kernel, by decide +kernel, ⟨8, 48, by decide +kernel⟩, ?_⟩,
    by decide +kernel⟩
  rintro ⟨v, i, hv, -, h, -⟩
  exact Bool.noConfusion ((windows_off v hv).symm.trans h.1)

/-- Slot 70 in TO_REPLAY, 71 in LIVE with class 1, 72 a BUS slot. -/
def slots : State :=
  withSlot 70 ⟨.punch 40 180 .toReplay 15, 1⟩ (withSlot 71 ⟨.punch 40 180 .live 48, 1⟩ (withSlot 72 ⟨.bus 40, 1⟩ z))

theorem slots_70 : slots.egress[(70 : Fin 128)].use = .punch 40 180 .toReplay 15 := by decide +kernel

theorem slots_71 : slots.egress[(71 : Fin 128)].use = .punch 40 180 .live 48 := by decide +kernel

theorem slots_72 : slots.egress[(72 : Fin 128)].use = .bus 40 := by decide +kernel

theorem not_crossfading (t : Fin 128) (h : t = 71 ∨ t = 72) : ¬slots.egress[t].crossfades := by
  rintro ⟨b, p, k, hk⟩
  rcases h with rfl | rfl
  · rw [slots_71] at hk
    simp at hk
  · rw [slots_72] at hk
    simp at hk

theorem witness_WriteEgressRecord :
    slots.ready ∧ 127 < (128 : Octet).toNat ∧ slots.egress[(70 : Fin 128)].crossfades ∧
    (∀ t : Fin 128, t = 71 ∨ t = 72 → ¬slots.egress[t].crossfades) ∧
    (slotRefused 4 0 0 0 ∧ slotRefused 1 64 0 0 ∧ slotRefused 2 192 0 0 ∧ slotRefused 3 64 0 0 ∧ slotRefused 3 0 192 0 ∧
      slotRefused 0 0 0 ((0xF8 : Octet).toNat % 16)) ∧
    (let live := slots.egress[(71 : Fin 128)];
      let other := slots.egress[(72 : Fin 128)];
      slotMade live 0 255 255 7 ⟨.off, 7⟩ ∧ slotMade live 1 63 255 7 ⟨.bus 63, 7⟩ ∧ slotMade live 2 191 255 7 ⟨.direct 191, 7⟩ ∧
        slotMade live 3 63 191 7 ⟨.punch 63 191 .live 4800, 7⟩ ∧ slotMade other 3 63 191 7 ⟨.punch 63 191 .replay 0, 7⟩) := by
  refine ⟨⟨rfl, by decide⟩, by decide, ⟨40, 180, 15, .inr slots_70⟩, not_crossfading, ?_, ⟨rfl, rfl⟩, ⟨rfl, rfl, rfl⟩,
    ⟨rfl, rfl, rfl⟩, ⟨rfl, rfl, rfl, rfl, rfl, 40, 180, slots_71⟩, ⟨rfl, rfl, rfl, rfl, rfl, ?_⟩⟩
  · unfold slotRefused
    decide
  · intro b p k
    rw [slots_72]
    simp

/-- GROUP 4 in range, then GROUP 5 with class 8. -/
def groupRecords : List (List Octet) := [[0, 0, 3], [0, 0, 8]]

theorem witness_WriteTableStopsAtFirstRefusal :
    z.ready ∧ 7 < (8 : Octet).toNat ∧ groupRecords ≠ [] ∧ groupRecords.flatten.length ≤ 56 ∧
    (∀ o ∈ groupRecords, o.length = [5, 5, 3, 3, 4, 4, 2, 5].getD (2 : Fin 8).val 0) ∧
    ∃ states : Nat → State, states 0 = z ∧
      (∀ j, j < 1 → (states j).writeRecord 2 ((4 : Octet).toNat + j) (groupRecords.getD j []) = .ok (states (j + 1))) ∧
      (1 = (groupRecords.take 1).length ∧ 1 < groupRecords.length) ∧
      (states 1).writeRecord 2 ((4 : Octet).toNat + 1) (groupRecords.getD 1 []) = .error .range := by
  refine ⟨ready_z, by decide, by decide, by decide, by decide, fun j => if j = 0 then z else (z.writeGroup 4 [0, 0, 3]).toOption.getD z,
    rfl, ?_, by decide, rfl⟩
  intro j h
  obtain rfl : j = 0 := by omega
  rfl

theorem witness_WriteFieldOfRecord :
    slots.ready ∧
    (let value := fun hi lo : Octet => (hi ++ lo : BitVec 16).toInt;
      value 0 255 = 255 ∧ value 0 31 = (31 : Fin 32).val ∧ value 0 0 = 0 ∧ value 0 1 = 1 ∧ value 0 3 = (3 : Fin 4).val ∧
        value 0 7 = (7 : Fin 8).val) ∧
    (layout.ready ∧ layout.tierFits 40 1 = true ∧ layout.tierFits 8 1 = false) ∧
    (slots.egress[(70 : Fin 128)].crossfades ∧ 255 < 256) ∧
    (¬slots.egress[(71 : Fin 128)].crossfades ∧ (255 : Nat) ≤ 255 ∧ slotRefused 255 40 180 1 ∧ slotRefused 3 64 180 1 ∧
      slotRefused 3 40 192 1 ∧ slotRefused 3 40 180 (8 % 16)) ∧
    (slotMade slots.egress[(71 : Fin 128)] 3 63 180 1 ⟨.punch 63 180 .live 48, 1⟩ ∧
      slotMade slots.egress[(71 : Fin 128)] 3 40 180 (7 % 16) ⟨.punch 40 180 .live 4800, 7⟩) := by
  refine ⟨⟨rfl, by decide⟩, by decide, ⟨⟨rfl, by decide⟩, by decide +kernel⟩, ⟨⟨40, 180, 15, .inr slots_70⟩, by decide⟩,
    ⟨not_crossfading 71 (.inl rfl), by decide, ?_⟩, ⟨rfl, rfl, rfl, rfl, rfl, 40, 180, slots_71⟩,
    ⟨rfl, rfl, rfl, rfl, rfl, 40, 180, slots_71⟩⟩
  unfold slotRefused
  decide

theorem witness_WriteFieldRefused :
    slots.ready ∧
    (((3 : Octet).toNat = 3 ∧ (7 : Octet).toNat = 7 ∧ 7 < (8 : Octet).toNat) ∧
      ((0 : Octet).toNat = 0 ∧ 191 < (192 : Octet).toNat ∧ 4 < (5 : Octet).toNat) ∧
      ((1 : Octet).toNat = 1 ∧ 63 < (64 : Octet).toNat ∧ 3 < (4 : Octet).toNat) ∧
      ((2 : Octet).toNat = 2 ∧ 31 < (32 : Octet).toNat ∧ 1 < (2 : Octet).toNat) ∧
      ((5 : Octet).toNat = 5 ∧ 127 < (128 : Octet).toNat ∧ (71 : Octet).toNat = (71 : Fin 128).val)) ∧
    (let beyond := fun (hi lo : Octet) (n : Int) => (hi ++ lo : BitVec 16).toInt < 0 ∨ n < (hi ++ lo : BitVec 16).toInt;
      (beyond 0 32 31 ∧ ((0 : Octet) ++ (32 : Octet) : BitVec 16).toInt ≠ 255) ∧ beyond 0xFF 0xFF 31 ∧ beyond 0 2 1 ∧ beyond 0 4 3 ∧
        beyond 0 8 7 ∧ beyond 1 0 255) ∧
    ¬slots.egress[(71 : Fin 128)].crossfades :=
  ⟨⟨rfl, Nat.zero_lt_succ 15⟩, by decide, by decide, not_crossfading 71 (.inl rfl)⟩

theorem witness_SetWindowPlacesCounter :
    z.ready ∧ ((9 : Octet).toNat < (10 : Octet).toNat ∧ 63 < (64 : Octet).toNat ∧ 1 < (2 : Octet).toNat) ∧
    ((0 : Octet).toNat = (0 : Fin 256).val ∧ (255 : Octet).toNat = (255 : Fin 256).val ∧ (63 : Octet).toNat = (63 : Fin 64).val ∧
      (0 : Fin 256) ≤ 255 ∧ (63 : Fin 64) ≤ 63 ∧ (1 : Octet).toNat ≤ 1) := ⟨ready_z, by decide +kernel⟩

/-- The window of section 5.3: rows 10..12 downward, columns 4..5, by columns. -/
theorem witness_WindowWalk :
    let w : MatrixWindow := ⟨10, 12, 4, 5, .columns, .down, .up, 12, 4⟩
    w.firstRow ≤ w.lastRow ∧ w.firstCol ≤ w.lastCol ∧ w.row = (if w.rowDir = .up then w.firstRow else w.lastRow) ∧
      w.col = (if w.colDir = .up then w.firstCol else w.lastCol) := by decide +kernel

def sweeping : State := { z with sweep := .inFlight 7 128 }

/-- The cell (200, 39) of the layout of section 5.2, which is illegal, and (200, 40), which is not. -/
def atIllegal : State := { layout with window := ⟨200, 201, 39, 40, .rows, .up, .up, 200, 39⟩ }

def atLegal : State := { layout with window := ⟨200, 201, 39, 40, .rows, .up, .up, 200, 40⟩ }

theorem witness_WriteGainsOneCell :
    (sweeping.ready ∧ sweeping.sweep = .inFlight 7 128) ∧ (z.sweep = .idle ∧ 7 < (8 : Octet).toNat) ∧
    (atIllegal.ready ∧ atIllegal.sweep = .idle ∧ (7 : Octet).toNat = (7 : Fin 8).val) ∧
    ((0x80 : Octet) ++ (0 : Octet) : BitVec 16).toInt = -32768 ∧
    (((0 : Octet) ++ (5 : Octet) : BitVec 16).toInt ≠ -32768 ∧
      (∃ b : Fin 64, atIllegal.window.row.val = 192 + b.val ∧ atIllegal.buses[atIllegal.window.col].tier ≤ atIllegal.buses[b].tier) ∧
      clampInt (-960) 96 ((0 : Octet) ++ (5 : Octet) : BitVec 16).toInt ≠ -960) ∧
    (atLegal.ready ∧ atLegal.sweep = .idle ∧
      ¬∃ b : Fin 64, atLegal.window.row.val = 192 + b.val ∧ atLegal.buses[atLegal.window.col].tier ≤ atLegal.buses[b].tier) ∧
    clampInt (-960) 96 ((0x80 : Octet) ++ (1 : Octet) : BitVec 16).toInt = -960 :=
  ⟨⟨⟨rfl, by decide⟩, rfl⟩, ⟨rfl, by decide⟩, ⟨⟨rfl, by decide⟩, rfl, by decide⟩, by decide,
    ⟨by decide, ⟨8, by decide +kernel⟩, by decide +kernel⟩, ⟨⟨rfl, by decide⟩, rfl, by decide +kernel⟩, by decide +kernel⟩

theorem witness_WriteGainsTakesCellsInOrder :
    atIllegal.ready ∧ atIllegal.sweep = .idle ∧ 1 ≤ [(5 : BitVec 16)].length ∧
      (List.replicate 26 (5 : BitVec 16)).length ≤ 26 ∧ sweeping.ready ∧ sweeping.sweep = .inFlight 7 128 ∧
      7 < (8 : Octet).toNat := ⟨⟨rfl, by decide⟩, rfl, by decide, by decide, ⟨rfl, by decide⟩, rfl, by decide⟩

theorem witness_ReadGainsReturnsPairs :
    z.ready ∧ (0 : Octet).toNat = 0 ∧ 14 < (15 : Octet).toNat ∧ 1 ≤ (1 : Octet).toNat ∧ (14 : Octet).toNat ≤ 14 :=
  ⟨ready_z, by decide⟩

theorem witness_MatrixClearStartsSweep :
    (sweeping.ready ∧ sweeping.sweep = .inFlight 7 128) ∧
    (z.ready ∧ z.sweep = .idle ∧ 7 < (8 : Octet).toNat ∧ (7 : Octet).toNat = (7 : Fin 8).val) :=
  ⟨⟨⟨rfl, by decide⟩, rfl⟩, ready_z, rfl, by decide⟩

theorem rampingMatrix_cell (k : Fin 48) (u t : Int) (r : Fin 256) (c : Fin 64) :
    (rampingMatrix k u t).cell r c = busyCell k u t r.val c.val := by
  simp [rampingMatrix, Matrix.cell]

theorem rampingMatrix_ok (k : Fin 48) (u t : Int) : MatrixOk (rampingMatrix k u t) := by
  have hp : (rampingMatrix k u t).pool = busyPool k := by simp only [rampingMatrix]
  unfold busyPool at hp
  have hc : ∀ r c, busyCell k u t r c =
      if r < 16 then ⟨(Ramp.mk (-960) 0 48 k.val).cur, 0, false⟩
      else if r = 16 ∧ c = 0 then ⟨-960, u, true⟩ else if r = 16 ∧ c = 1 then ⟨-960, t, true⟩ else Xp.off := fun _ _ => rfl
  have hw : (rampingMatrix k u t).waiting = [⟨16, 0, 2⟩, ⟨16, 1, 2⟩] := rfl
  have hl : (rampingMatrix k u t).pool.length = 1024 := by
    rw [hp, List.length_map, List.length_finRange]
  refine ⟨hl.le, ?_, ?_, ?_, ?_, fun _ => hl, ?_, ?_⟩
  · rw [hp, List.pairwise_map]
    refine (List.pairwise_lt_finRange 1024).imp ?_
    intro i j h
    simp only [xpKey, busyEntry]
    have : i.val < j.val := h
    omega
  · intro e he
    rw [hp] at he
    obtain ⟨i, -, rfl⟩ := List.mem_map.mp he
    refine ⟨Nat.le_refl 48, (by decide : 48 ≤ 4800), k.isLt, ?_⟩
    rw [rampingMatrix_cell, hc, if_pos (show (busyEntry k i).row.val < 16 from (by omega : i.val / 64 < 16))]
    rfl
  · rw [hw]
    decide
  · intro w h
    rw [hw] at h
    simp only [List.mem_cons, List.not_mem_nil, or_false] at h
    rcases h with rfl | rfl <;> exact ⟨by decide, by rw [rampingMatrix_cell]; rfl⟩
  · intro r c h
    rw [rampingMatrix_cell, hc] at h
    split at h
    · simp at h
    · split at h
      · rename_i h1
        exact ⟨⟨16, 0, 2⟩, by rw [hw]; simp, Fin.ext h1.1.symm, Fin.ext h1.2.symm⟩
      · split at h
        · rename_i h1
          exact ⟨⟨16, 1, 2⟩, by rw [hw]; simp, Fin.ext h1.1.symm, Fin.ext h1.2.symm⟩
        · simp [Xp.off] at h
  · intro r c h hpd
    rw [rampingMatrix_cell, hc] at hpd ⊢
    by_cases hr : r.val < 16
    · exfalso
      have hn := List.find?_eq_none.mp h
      rw [hp] at hn
      refine hn ⟨r, c, ⟨-960, 0, 48, k.val⟩⟩ ?_ (by simp)
      refine List.mem_map.mpr ⟨⟨r.val * 64 + c.val, by omega⟩, List.mem_finRange _, ?_⟩
      simp only [busyEntry, PoolEntry.mk.injEq, Fin.ext_iff, and_true]
      omega
    · rw [if_neg hr] at hpd ⊢
      split at hpd
      · simp at hpd
      · split at hpd
        · simp at hpd
        · rename_i h1 h2
          rw [if_neg h1, if_neg h2]
          rfl

theorem busyMatrix_ok (t : Int) : MatrixOk (busyMatrix t) := rampingMatrix_ok 47 (-960) t

/-- The pool of the matrix with every entry in use, for each clause of R72 and R73 at once. -/
theorem witness_PoolRules :
    MatrixOk (busyMatrix (-80)) ∧
    (let m := busyMatrix (-80);
      ((0 : Fin 8) = 0 ∧ m.entry 15 63 ≠ none) ∧ ((0 : Fin 8) = 0 ∧ m.entry 20 3 = none) ∧ ((7 : Fin 8) ≠ 0 ∧ m.entry 0 0 ≠ none) ∧
      (m.entry 16 1 = none ∧ (m.cell 16 1).pend = true) ∧
      (m.entry 20 3 = none ∧ (m.cell 20 3).pend = false ∧ (m.cell 20 3).cur = -960) ∧
      (z.matrix.entry 20 3 = none ∧ (z.matrix.cell 20 3).pend = false ∧ (z.matrix.cell 20 3).cur ≠ 96 ∧ z.matrix.pool.length < 1024) ∧
      ((m.cell 20 3).cur ≠ 96 ∧ 1024 ≤ m.pool.length)) := ⟨busyMatrix_ok _, by decide +kernel⟩

/-- What every engine frame of the oscillator from the start-up state leaves of a matrix for its ramp advance: all of it. -/
theorem oscillator_matrix (m : Matrix) : (State.frameEvents { z with matrix := m } .oscillator).matrix = m := by
  obtain ⟨_, _, _, _, h⟩ := State.frameStart_touches { z with matrix := m }
  unfold State.frameEvents
  rw [h]
  simp [State.track, State.automate]

theorem witness_RampCompletionHandsEntryOut :
    MatrixOk (busyMatrix (-80)) ∧ MatrixOk (busyMatrix (-960)) ∧
    ((busyMatrix (-80)).entry 0 0 = some ⟨0, 0, ⟨-960, 0, 48, 47⟩⟩ ∧ (Ramp.mk (-960) 0 48 47).len ≤ (Ramp.mk (-960) 0 48 47).k + 1) ∧
    (∀ w ∈ (busyMatrix (-960)).waiting,
      ((busyMatrix (-960)).cell w.row w.col).cur = ((busyMatrix (-960)).cell w.row w.col).tgt) ∧
    ((busyMatrix (-80)).waiting = [⟨16, 0, 2⟩] ++ ⟨16, 1, 2⟩ :: [] ∧
      (∀ v ∈ [Waiting.mk 16 0 2], ((busyMatrix (-80)).cell v.row v.col).cur = ((busyMatrix (-80)).cell v.row v.col).tgt) ∧
      ((busyMatrix (-80)).cell 16 1).cur ≠ ((busyMatrix (-80)).cell 16 1).tgt) ∧
    (busyMatrix (-80)).entry 20 3 = none ∧ (rampingMatrix 46 0 0).entry 15 63 = some ⟨15, 63, ⟨-960, 0, 48, 46⟩⟩ ∧
    (∀ k : Fin 48, MatrixOk (State.frameEvents { z with matrix := rampingMatrix k 96 (-80) } .oscillator).matrix ∧
      ({ z with matrix := rampingMatrix k 96 (-80) } : State).sweep = .idle ∧
      busyEntry k 1023 ∈ (rampingMatrix k 96 (-80)).pool) ∧
    (Ramp.mk (-960) 0 48 46).k + 1 < (Ramp.mk (-960) 0 48 46).len ∧
    (∀ w ∈ (rampingMatrix 47 96 (-80)).waiting,
      ((rampingMatrix 47 96 (-80)).cell w.row w.col).cur ≠ ((rampingMatrix 47 96 (-80)).cell w.row w.col).tgt) := by
  refine ⟨busyMatrix_ok _, busyMatrix_ok _, by decide +kernel, by decide +kernel, by decide +kernel, by decide +kernel,
    by decide +kernel, fun k => ⟨?_, rfl, ?_⟩, by decide, by decide +kernel⟩
  · rw [oscillator_matrix]
    exact rampingMatrix_ok _ _ _
  · have hp : (rampingMatrix k 96 (-80)).pool = busyPool k := by simp only [rampingMatrix]
    show busyEntry k 1023 ∈ (rampingMatrix k 96 (-80)).pool
    rw [hp]
    unfold busyPool
    exact List.mem_map.mpr ⟨1023, List.mem_finRange _, rfl⟩

theorem witness_SweepCompletionEndsSweep :
    (sweeping.sweep = .inFlight 7 128 ∧ 128 ≤ 128) ∧ z.sweep = .idle ∧
    ({ z with sweep := .inFlight 7 256 }.sweep = .inFlight 7 256 ∧ 128 < 256) ∧
    (MatrixOk (busyMatrix (-80)) ∧ 16256 + 128 ≤ 16384 ∧ 16256 ≤ xpKey 255 63 ∧ xpKey 255 63 < 16256 + 128 ∧
      xpKey 253 63 < 16256 ∧ 0 + 128 ≤ xpKey 2 0) :=
  ⟨⟨rfl, by decide⟩, rfl, ⟨rfl, by decide⟩, busyMatrix_ok _, by decide +kernel⟩

theorem witness_EventRecordLayout :
    let refused := fun (kind i1 i2 last : Nat) => kind < 256 ∧ i1 < 256 ∧ last < 256 ∧
      ((kind = 0 ∨ 8 < kind) ∨ (kind = 1 ∧ 63 < i2) ∨ (kind = 2 ∧ 191 < i1) ∨ (kind = 3 ∧ 31 < i1) ∨
        (kind = 4 ∧ 63 < i1) ∨ (kind = 5 ∧ 191 < i1) ∨ (kind = 6 ∧ 63 < i1) ∨ (7 ≤ kind ∧ 127 < i1) ∨
        (1 ≤ kind ∧ kind ≤ 4 ∧ 7 < last) ∨ (5 ≤ kind ∧ kind ≤ 6 ∧ 1 < last));
    refused 0 0 0 0 ∧ refused 9 0 0 0 ∧ refused 255 0 0 0 ∧ refused 1 0 64 0 ∧ refused 2 192 0 0 ∧ refused 3 32 0 0 ∧ refused 4 64 0 0 ∧
      refused 5 192 0 0 ∧ refused 6 64 0 0 ∧ refused 7 128 0 0 ∧ refused 8 128 0 0 ∧ refused 4 0 0 8 ∧ refused 5 0 0 2 := by
  simp

/-- The automation queue full, every event due at 2,008. -/
def fullQueue : State := { parked with queue := List.replicate 512 ⟨2008, .punchIn 70⟩ }

theorem fullQueue_length : fullQueue.queue.length = 512 := List.length_replicate

/-- Q14, due before the parked transport, is late; Q13 behind it is not, nor in the full queue. -/
theorem witness_QueueOneEvent :
    (parked.ready ∧ QueueOk parked ∧ (∀ o ∈ [q14, q13], o.length = 10) ∧ 1 ≤ [q14, q13].length ∧ [q14, q13].length ≤ 5) ∧
    (∃ states : Nat → State, states 0 = parked ∧
      ∀ j, j < 2 → ∃ e, readEvent ([q14, q13].getD j []) = some e ∧ (states j).EventTaken e (states (j + 1))) ∧
    readEvent (zeros 10) = none ∧
    (fullQueue.ready ∧ QueueOk fullQueue ∧ fullQueue.queue.length = 512 ∧
      ∃ e, readEvent q13 = some e ∧ ¬fullQueue.late e) := by
  have h14 : readEvent q14 = some ⟨2006, .srcTrim 12 (-16) 1⟩ := by decide +kernel
  have h13 : readEvent q13 = some ⟨2008, .srcMute 20 true⟩ := by decide +kernel
  let e14 : AutoEvent := ⟨2006, .srcTrim 12 (-16) 1⟩
  let e13 : AutoEvent := ⟨2008, .srcMute 20 true⟩
  let s1 : State :=
    { parked.applyMove e14.move with report := ((parked.applyMove e14.move).report.addCount 15).setItem .late }
  let s2 : State :=
    { s1 with
      queue := (s1.queue.filter fun f : AutoEvent => decide (f.due ≤ e13.due)) ++ e13 ::
        s1.queue.filter fun f : AutoEvent => decide (e13.due < f.due) }
  refine ⟨⟨⟨rfl, by decide⟩, ?_, by decide, by decide⟩,
    ⟨fun j => match j with | 0 => parked | 1 => s1 | _ => s2, rfl, ?_⟩, by decide +kernel, ⟨rfl, by decide⟩, ?_, fullQueue_length,
    _, h13, by unfold State.late; decide +kernel⟩
  · unfold QueueOk
    decide +kernel
  · intro j hj
    obtain rfl | rfl : j = 0 ∨ j = 1 := by omega
    · exact ⟨e14, h14, .inl ⟨by unfold State.late; decide +kernel, rfl⟩⟩
    · exact ⟨e13, h13, .inr ⟨by unfold State.late; decide +kernel, by decide +kernel, rfl⟩⟩
  · exact ⟨(fullQueue_length).le, List.pairwise_replicate.mpr (.inr (by decide))⟩

theorem witness_AppliedEventMoves :
    ((∃ b : Fin 64, (200 : Fin 256).val = 192 + b.val ∧ layout.buses[(39 : Fin 64)].tier ≤ layout.buses[b].tier) ∧ (96 : Int) ≠ -960) ∧
    (¬∃ b : Fin 64, (200 : Fin 256).val = 192 + b.val ∧ layout.buses[(40 : Fin 64)].tier ≤ layout.buses[b].tier) ∧
    (∀ b p st k, slots.egress[(72 : Fin 128)].use ≠ .punch b p st k) ∧
    (let s := fun (state : PunchState) (k : Nat) (n : Fin 8) => withSlot 70 ⟨.punch 40 180 state k, n⟩ z;
      (s .replay 0 0).egress[(70 : Fin 128)].use = .punch 40 180 .replay 0 ∧ rampLen (s .replay 0 0).egress[(70 : Fin 128)].cls = 0 ∧
        (s .toLive 15 1).egress[(70 : Fin 128)].use = .punch 40 180 .toLive 15 ∧
        (s .live 48 1).egress[(70 : Fin 128)].use = .punch 40 180 .live 48 ∧
        (s .toReplay 15 1).egress[(70 : Fin 128)].use = .punch 40 180 .toReplay 15) := by
  refine ⟨⟨⟨8, by decide +kernel⟩, by decide⟩, by decide +kernel, ?_, by decide +kernel⟩
  intro b p st k
  rw [slots_72]
  simp

theorem witness_FlushQueueEmptiesQueue :
    parked.ready ∧ parked.report.control.lowMark < parked.queue.length := ⟨⟨rfl, by decide⟩, by decide +kernel⟩

/-- A slot of class 0 in REPLAY and one in LIVE. -/
def instantSlots : State := withSlot 8 ⟨.punch 1 2 .replay 0, 0⟩ (withSlot 9 ⟨.punch 1 2 .live 0, 0⟩ z)

/-- The run of slots 8 and 9 is one of length 0, and so is the first part of the run 8..127. -/
theorem witness_PunchRequestsRun :
    slots.ready ∧ (127 < (128 : Octet).toNat ∧ (0 : Octet).toNat = 0 ∧ 128 < (127 : Octet).toNat + (2 : Octet).toNat ∧
      1 < (2 : Octet).toNat) ∧
    (instantSlots.ready ∧ 1 ≤ (120 : Octet).toNat ∧ (8 : Octet).toNat + (120 : Octet).toNat ≤ 128 ∧ (1 : Octet).toNat ≤ 1 ∧
      rampLen instantSlots.egress[(8 : Fin 128)].cls = 0 ∧ instantSlots.egress[(8 : Fin 128)].use = .punch 1 2 .replay 0 ∧
      rampLen instantSlots.egress[(10 : Fin 128)].cls ≠ 0) :=
  ⟨⟨rfl, by decide⟩, by decide, ⟨rfl, by decide⟩, by decide +kernel⟩

theorem slot_ok (t : Slot) (h : (match t.use with
    | .off => true
    | .bus _ => true
    | .direct _ => true
    | .punch _ _ .replay k => k == 0
    | .punch _ _ .live k => k == t.len
    | .punch _ _ .toLive k => decide (0 < t.len ∧ k ≤ t.len)
    | .punch _ _ .toReplay k => decide (0 < t.len ∧ k ≤ t.len)) = true) : t.ok := by
  obtain ⟨u, c⟩ := t
  unfold Slot.ok
  cases u with
  | off => trivial
  | bus b => trivial
  | direct i => trivial
  | punch b p st k => cases st <;> simpa using h

/-- Slots one advance from LIVE, one advance from REPLAY, and between. -/
def arriving : State :=
  withSlot 3 ⟨.punch 1 2 .toLive 47, 1⟩ (withSlot 4 ⟨.punch 1 2 .toReplay 1, 1⟩ (withSlot 5 ⟨.punch 1 2 .toReplay 2, 1⟩ z))

theorem arriving_ok : PunchOk arriving := fun t =>
  slot_ok _ ((by decide +kernel : ∀ t : Fin 128, (match arriving.egress[t].use with
    | .off => true
    | .bus _ => true
    | .direct _ => true
    | .punch _ _ .replay k => k == 0
    | .punch _ _ .live k => k == arriving.egress[t].len
    | .punch _ _ .toLive k => decide (0 < arriving.egress[t].len ∧ k ≤ arriving.egress[t].len)
    | .punch _ _ .toReplay k => decide (0 < arriving.egress[t].len ∧ k ≤ arriving.egress[t].len)) = true) t)

theorem witness_PunchArrivalEndsCrossfade :
    PunchOk arriving ∧
    (arriving.egress[(3 : Fin 128)].use = .punch 1 2 .toLive 47 ∧ rampLen arriving.egress[(3 : Fin 128)].cls ≤ 47 + 1) ∧
    (arriving.egress[(4 : Fin 128)].use = .punch 1 2 .toReplay 1 ∧ 1 ≤ 1) ∧
    (∀ b p k, (arriving.egress[(5 : Fin 128)].use = .punch b p .toLive k → k + 1 < rampLen arriving.egress[(5 : Fin 128)].cls) ∧
      (arriving.egress[(5 : Fin 128)].use = .punch b p .toReplay k → 1 < k)) ∧
    arriving.report.notices[(4 : Fin 8)].steer = .none := by
  have h5 : arriving.egress[(5 : Fin 128)].use = .punch 1 2 .toReplay 2 := by decide +kernel
  refine ⟨arriving_ok, by decide +kernel, by decide +kernel, ?_, by decide +kernel⟩
  intro b p k
  rw [h5]
  exact ⟨by simp, fun h => by cases h; decide⟩

theorem witness_ReadFlagsReturnsBitmaps : (withReport noticeReport z).ready := ⟨rfl, by decide⟩

theorem witness_ClearFlagsClearsNamedItems :
    (withReport noticeReport z).ready ∧ (zeros 16).length = 16 ∧ 7 < (8 : Octet).toNat ∧ (7 : Octet).toNat = (7 : Fin 8).val :=
  ⟨⟨rfl, by decide⟩, by decide⟩

theorem witness_ReadCountersReturnsValues :
    z.ready ∧ ((0 : Octet).toNat = 0 ∧ 28 < (29 : Octet).toNat ∧ 84 < (57 : Octet).toNat + (28 : Octet).toNat ∧ 1 < (2 : Octet).toNat) ∧
    (1 ≤ (1 : Octet).toNat ∧ (28 : Octet).toNat ≤ 28 ∧ (56 : Octet).toNat + (28 : Octet).toNat ≤ 84 ∧ (1 : Octet).toNat ≤ 1) :=
  ⟨ready_z, by decide⟩

theorem witness_EngineResetSettlesEngine : (withReport noticeReport layout).ready := ⟨rfl, by decide⟩

/-- A report with 32,767 in every counter, CLIP steered X, the coalescing count 3. -/
def halfScale : Report := { noticeReport with counters := Vector.replicate 84 32767, due := false, unreported := 1 }

theorem witness_CounterAndItemRules :
    (halfScale.counters[(5 : Fin 84)] ≤ 65535 ∧ halfScale.counters[(5 : Fin 84)] < 32768 ∧
      32768 ≤ halfScale.counters[(5 : Fin 84)] + 1 ∧ halfScale.counters[(5 : Fin 84)] + 0 < 32768 ∧
      32768 ≤ { halfScale with counters := Vector.replicate 84 65535 }.counters[(5 : Fin 84)]) ∧
    halfScale.isSet (.clip 43) = true ∧
    (halfScale.isSet (.clip 0) = false ∧ halfScale.control.coalCount ≤ 15) ∧
    (halfScale.isSet .startUp = false ∧ halfScale.notices[itemClass .startUp].steer = .none) ∧
    (halfScale.notices[itemClass (.clip 0)].steer ≠ .none ∧ halfScale.unreported + 1 < halfScale.control.coalCount) ∧
    (let r := { halfScale with unreported := 2, laneX := ⟨some [0xC3], none⟩ };
      r.isSet (.clip 0) = false ∧ r.control.coalCount ≤ r.unreported + 1 ∧ r.noticeBusy = true) ∧
    (let r := { halfScale with unreported := 2 };
      r.isSet (.clip 0) = false ∧ r.control.coalCount ≤ r.unreported + 1 ∧ r.noticeBusy = false) := by decide +kernel

theorem witness_NoticeDueAndComposed :
    (noticeReport.due = true ∧ noticeReport.noticeBusy = false) ∧ z.report.due = false ∧
    (let r := { noticeReport with due := false, timer := some 1 };
      r.timer = some 1 ∧ 1 ≤ 1 ∧ r.noticeBusy = false) ∧
    (let r := { noticeReport with due := false, timer := some 1, laneX := ⟨none, some ⟨.notice, [1]⟩⟩ };
      r.timer = some 1 ∧ r.noticeBusy = true) ∧
    z.report.timer = none ∧
    (let r := { z.report with timer := some 2, unreported := 1 };
      r.timer = some 2 ∧ 1 < 2 ∧ r.due = false ∧ ∀ c : Fin 8, r.notices[c].steer = .none) ∧
    (let last := { noticeReport with laneX := ⟨none, some ⟨.notice, [1, 2, 3, 4]⟩⟩ };
      last.due = true ∧ ({ last with laneX := last.laneX.after [] } : Report).noticeBusy = false ∧ last.copy onX ≠ none) ∧
    (let behind := { noticeReport with due := false, timer := some 1, laneX := ⟨none, some ⟨.notice, [1, 2, 3, 4, 5]⟩⟩ };
      behind.timer = some 1 ∧ behind.unreported ≠ 0 ∧ ({ behind with laneX := behind.laneX.after [] } : Report).noticeBusy = true) := by
  decide +kernel

/-! The links: one frame of `frameOctets`, as it is read. -/

def readIn : LinkFrame := readFrame (frameOctets 7 true 5 idleLane)

theorem readIn_parsed : parseFrame (frameOctets 7 true 5 idleLane) = some readIn :=
  if_pos (by decide +kernel : framePasses (frameOctets 7 true 5 idleLane) = true)

theorem readIn_ann : readIn.ann = oneSlot := by decide +kernel

/-- A link's state with an announcement of two slots, which the frame above does not carry. -/
def otherReceiver (st : LinkState) : Receiver := ⟨st, some ⟨2, 2, 0x31⟩, 3, 7, zeroSamples, idleBuffer⟩

/-- Class 2 admitted from two slots on. -/
def narrow (s : State) : State := { s with accept := s.accept.set 2 ⟨true, 2, 64⟩ }

theorem witness_PassingFrameAtReceiver :
    parseFrame (frameOctets 7 true 5 idleLane) = some readIn ∧
    (∀ r : Receiver, (withLink .a r z).clock.state = .free) ∧
    (z.link .a).state = .absent ∧
    (let r := (withLink .a (otherReceiver .sensing) z).link .a;
      r.state = .sensing ∧ ¬(1 ≤ r.run ∧ r.ann = some readIn.ann)) ∧
    (let r := (withLink .a (receiver .sensing 14 7 idleBuffer) z).link .a;
      r.state = .sensing ∧ 1 ≤ r.run ∧ r.ann = some readIn.ann ∧ r.run ≠ 15) ∧
    (let s := withLink .b (receiver .sensing 15 7 idleBuffer) z;
      (s.link .b).state = .sensing ∧ (s.link .b).run = 15 ∧ (s.link .b).ann = some readIn.ann ∧
        s.accept[readIn.ann.cls].accept = true ∧ s.accept[readIn.ann.cls].min ≤ readIn.ann.slots ∧
        readIn.ann.slots ≤ s.accept[readIn.ann.cls].max) ∧
    (let s := narrow (withLink .a (receiver .sensing 15 7 idleBuffer) z);
      (s.link .a).state = .sensing ∧ (s.link .a).run = 15 ∧ (s.link .a).ann = some readIn.ann ∧
        ¬s.accept[readIn.ann.cls].min ≤ readIn.ann.slots) ∧
    (let r := (withLink .b (receiver .accepted 16 7 (bufferOf 4)) z).link .b;
      r.state = .accepted ∧ r.ann = some readIn.ann) ∧
    (let r := (withLink .a (receiver .rejected 16 7 idleBuffer) z).link .a;
      r.state = .rejected ∧ r.ann = some readIn.ann) ∧
    (let r := (withLink .b (otherReceiver .accepted) z).link .b;
      r.state = .accepted ∧ r.ann ≠ some readIn.ann) ∧
    (let r := (withLink .a (otherReceiver .rejected) z).link .a;
      r.state = .rejected ∧ r.ann ≠ some readIn.ann) :=
  ⟨readIn_parsed, fun _ => rfl, by decide +kernel⟩

theorem witness_FailedFrameAtReceiver :
    (let s := withLink .a (receiver .sensing 15 6 idleBuffer) z;
      s.clock.state = .free ∧ (s.link .a).state = .sensing ∧ (s.link .a).badRun < 7) ∧
    (z.link .b).state = .absent ∧
    (let r := (withLink .b (receiver .rejected 16 6 idleBuffer) z).link .b;
      r.state = .rejected ∧ r.badRun < 7) ∧
    (let s := withLink .a (receiver .sensing 15 7 idleBuffer) z;
      s.clock.state = .free ∧ (s.link .a).state = .sensing ∧ 7 ≤ (s.link .a).badRun) ∧
    (let r := (withLink .b (receiver .accepted 16 6 (bufferOf 4)) z).link .b;
      r.state = .accepted ∧ r.badRun < 7) ∧
    (let r := (withLink .b (receiver .accepted 16 7 (bufferOf 1)) z).link .b;
      r.state = .accepted ∧ 7 ≤ r.badRun) := by decide +kernel

theorem witness_EngineFramePacing :
    parseFrame (frameOctets 7 true 5 idleLane) = some readIn ∧
    (((lockedAt 6).link .a).state = .accepted ∧ (lockedAt 6).clock.state = .locked ∧
      ((lockedAt 6).link .a).ann = some readIn.ann ∧ ((lockedAt 6).link .a).badRun < 7) ∧
    (let s := withLink .a (otherReceiver .accepted) (lockedAt 0);
      (s.link .a).state = .accepted ∧ s.clock.state = .locked ∧ (s.link .a).ann ≠ some readIn.ann) ∧
    (((lockedAt 7).link .a).state = .accepted ∧ (lockedAt 7).clock.state = .locked ∧ 7 ≤ ((lockedAt 7).link .a).badRun) ∧
    (let s := withLink .a (receiver .sensing 15 7 idleBuffer) z;
      (s.link .a).state = .sensing ∧ (s.link .a).run = 15 ∧ (s.link .a).ann = some readIn.ann ∧ s.clock.state = .free ∧
        s.accept[readIn.ann.cls].accept = true ∧ s.accept[readIn.ann.cls].min ≤ readIn.ann.slots ∧
        readIn.ann.slots ≤ s.accept[readIn.ann.cls].max) ∧
    (z.free = true ∧ (lockedAt 0).paced = true ∧ z.paced = false ∧ z.commands = [] ∧
      16 ≤ (withResponses 16 (withCommands 3 z)).responses.length ∧
      (withResponses 15 (withCommands 3 z)).commands = someMessage :: List.replicate 2 someMessage ∧
      (withResponses 15 (withCommands 3 z)).responses.length < 16 ∧ (withResponses 15 (withCommands 3 z)).free = true) :=
  ⟨readIn_parsed, by decide +kernel⟩

/-- R158: the message that waits is taken before the frame of its period, the answer standing while that frame is sent. -/
theorem test_waiting_message_is_taken_first :
    let t := after .oscillatorPeriod (withCommands 1 z)
    t.commands = [] ∧ t.responses.map (fun m => (m.kind, m.tag)) = [(0x81, 0xFF)] := by decide +kernel

/-- R187: at a full command queue a take before the frame makes room for the message that the frame completes, which then waits
for the seventeenth response. -/
theorem test_early_take_makes_room :
    let s := withFramer (.body allButLast) (withCommands 16 (lockedAt 0))
    let c := fun early => Instr.passingFrame .a (frameOctets 101 true 5 (someMessage.octets.getLast! :: [0, 0, 0])) 0 ⟨early, 0⟩
    (after (c 0) s).commands = [] ∧ (after (c 1) s).commands = [someMessage] := by decide +kernel

/-- The one window of `windows` maps channels 48..55, and no other channel. -/
theorem windows_cover (v : Fin 16) (i : Nat) (h : v ≠ 8 ∨ i < 48) : windows.ingress[v].covers i = false := by
  by_cases hv : v = 8
  · subst hv
    have h8 : windows.ingress[(8 : Fin 16)] = ⟨true, 0, 7, 48⟩ := by decide +kernel
    rw [h8]
    have := h.resolve_left (fun h => h rfl)
    simp [Window.covers]
    omega
  · exact covers_off _ _ (windows_off v hv)

theorem witness_EngineFrameEffects :
    (let s := withReport { z.report with laneX := ⟨none, some ⟨.response, zeros 4⟩⟩ } (withResponses 1 z);
      ∃ rest, s.report.laneX.tx = some ⟨.response, rest⟩ ∧ rest.length ≤ 4) ∧
    (¬∃ rest, z.report.laneX.tx = some ⟨.response, rest⟩ ∧ rest.length ≤ 4) ∧
    (Link.b ≠ .a ∧ z.report.counters[(3 : Fin 84)] ≤ 65535) ∧
    (let lane : Lane := ⟨some [1, 2, 3, 4, 5], none⟩;
      lane.waiting = some [1, 2, 3, 4, 5] ∧ lane.tx = none ∧ 4 < [1, 2, 3, 4, 5].length ∧
        { lane with tx := some ⟨.response, zeros 4⟩ }.tx ≠ none) ∧
    (∀ w : Fin 16, windows.ingress[w].covers (47 : Fin 192).val = false) ∧
    (windows.ingress[(8 : Fin 16)].covers (55 : Fin 192).val = true ∧
      ∀ v : Fin 16, v ≠ 8 → windows.ingress[v].covers (55 : Fin 192).val = false) :=
  ⟨⟨zeros 4, rfl, by decide⟩, (fun ⟨_, h, _⟩ => nomatch h), ⟨by decide, by decide +kernel⟩,
    by decide, fun w => windows_cover w _ (.inr (by decide)), by decide +kernel, fun v h => windows_cover v _ (.inl h)⟩

/-- A jump, a stopped frame, and a rolling frame whose head is held by a sweep. -/
theorem witness_AutomationAtFrame :
    ((State.engineFrame (lockedAt 0) (.passing zeroSamples 103 true)).tracker = ⟨103, true⟩ ∧
      (if (lockedAt 0).tracker.rolling = false then some (lockedAt 0).tracker.pos
        else if (lockedAt 0).tracker.pos.toNat = 4294967295 then none else some ((lockedAt 0).tracker.pos + 1)) ≠ some 103) ∧
    (State.engineFrame parked .failed).tracker.rolling = false ∧
    ((State.engineFrame { lockedAt 0 with queue := parked.queue } .failed).tracker.rolling = true ∧
      parked.queue.drop 0 = ⟨2008, .punchIn 70⟩ :: [⟨2020, .busLevel 40 (-80) 4⟩] ∧ 0 < 8) := by decide +kernel

theorem reset_cell (r : Fin 256) (c : Fin 64) : z.matrix.cell r c = Xp.off := by
  simp [z, State.reset, Matrix.reset, Matrix.cell]

theorem reset_tierLaw : TierLaw z := by
  intro b c h
  rw [reset_cell] at h
  simp [Xp.nonOff, Xp.off, offCode] at h

theorem witness_SampleArithmetic :
    (-8388608 : Int) ≤ -8388608 ∧ (8388607 : Int) ≤ 8388607 ∧ 0 < 1 ∧ 0 ≤ 1 ∧ 4800 ≤ 4800 := by decide

theorem witness_GainTableIsNearest :
    (0 : Int) ≤ ((959 : Fin 1104).val : Int) - 959 ∧ ((0 : Fin 1104).val : Int) - 959 < 0 ∧ (-960 : Int) ∈ [(96 : Int), -960] ∧
    clampInt (-960) 144 ([-500, -500] : List Int).sum = -960 ∧
    ¬((-960 : Int) ∈ ([-959] : List Int) ∨ clampInt (-960) 144 ([-959] : List Int).sum = -960) := by decide +kernel

theorem witness_RampLaw :
    (Ramp.mk (-80) 0 48 47).k < (Ramp.mk (-80) 0 48 47).len ∧ (Ramp.mk (-80) 0 48 48).len ≤ (Ramp.mk (-80) 0 48 48).k ∧
    0 < 48 ∧ 48 ≤ 48 := by decide

/-! The step of an empty queue, from the start-up state, is a step that every invariant's statement speaks of. -/

theorem step_z : step z = .next z := rfl

theorem reset_matrixOk : MatrixOk z.matrix := by
  refine ⟨by decide, List.Pairwise.nil, ?_, List.Pairwise.nil, ?_, ?_, ?_, ?_⟩
  · intro e he
    exact absurd he (List.not_mem_nil)
  · intro w hw
    exact absurd hw (List.not_mem_nil)
  · intro h
    exact absurd rfl h
  · intro r c h
    rw [reset_cell] at h
    exact absurd h (by decide)
  · intro r c _ _
    rw [reset_cell]
    rfl

theorem witness_EveryBusIsTheSumOfItsColumn :
    TierLaw z ∧ MatrixOk z.matrix ∧ z.report.counters[clipCountOf 63] ≤ 65535 ∧ z.report.notices[(1 : Fin 8)].steer = .none :=
  ⟨reset_tierLaw, reset_matrixOk, by decide +kernel, by decide +kernel⟩

theorem witness_MatrixAndTierLawKept : MatrixOk z.matrix ∧ TierLaw z ∧ step z = .next z := ⟨reset_matrixOk, reset_tierLaw, step_z⟩

theorem witness_CodesStayInRange : CodesOk z ∧ MutesOk z ∧ step z = .next z := by
  refine ⟨⟨?_, ?_, ?_, ?_, ?_, ?_⟩, by unfold MutesOk; decide +kernel, step_z⟩
  · intro r c
    rw [reset_cell]
    unfold inGainRange
    decide
  · intro e he
    exact absurd he (List.not_mem_nil)
  · unfold Ramp.within inGainRange inMuteRange
    decide +kernel
  · unfold Ramp.within inGainRange
    decide +kernel
  · unfold Ramp.within inGainRange inMuteRange
    decide +kernel
  · intro e he
    exact absurd he (List.not_mem_nil)

theorem witness_StoredStateKept :
    QueueOk parked ∧ CountersOk z ∧ TablesOk z ∧ WindowOk z.window ∧ SweepOk sweeping ∧ step parked = .next parked ∧
      step z = .next z ∧ step sweeping = .next sweeping := by
  refine ⟨?_, ?_, ⟨?_, ?_, ?_⟩, ?_, ?_, rfl, rfl, rfl⟩
  · unfold QueueOk
    decide +kernel
  · unfold CountersOk
    decide +kernel
  · decide +kernel
  · decide +kernel
  · intro v w _ i h
    have off : ∀ v : Fin 16, z.ingress[v].enabled = false := by decide +kernel
    rw [covers_off _ _ (off v)] at h
    exact nomatch h.1
  · unfold WindowOk
    decide +kernel
  · exact ⟨by decide, by decide, by decide⟩

theorem witness_ChannelAndLanesKept : ChannelOk z ∧ LanesOk z ∧ step z = .next z :=
  ⟨⟨by decide, by decide, trivial⟩, ⟨fun t h => absurd h (Option.some_ne_none t).symm, fun t h => absurd h (Option.some_ne_none t).symm⟩, step_z⟩

theorem witness_LinksAndClockKept : ClockOk z ∧ ReceiversOk z ∧ step z = .next z := by
  refine ⟨⟨by decide +kernel, fun _ => rfl⟩, ?_, step_z⟩
  intro l
  unfold Receiver.ok
  cases l <;> decide +kernel

theorem witness_PunchPositionsKept : PunchOk arriving ∧ step arriving = .next arriving := ⟨arriving_ok, rfl⟩

theorem witness_NoticeBlockKept : NoticeOk z.report ∧ step z = .next z :=
  ⟨⟨by decide, by decide, fun _ => ⟨rfl, rfl⟩, fun h => absurd h (by decide), fun n h => absurd h (Option.some_ne_none n).symm,
    fun h => absurd rfl h, fun h => absurd rfl h⟩, step_z⟩

end Sys2Proof.Tests
end

section
namespace Sys2Proof.Machine

/-! ### The links as a vector -/

/-- The receivers of a state whose vector of links is that of `s` with one written anew. -/
theorem State.link_of_links {s t : State} {l : Link} {x : Receiver} (h : t.links = s.links.set (linkIdx l) x) (m : Link) :
    t.link m = if m = l then x else s.link m := by
  have hset : t.link m = (s.setLink l x).link m := by rw [State.link, State.link, h, State.setLink]
  rw [hset]
  split
  · next e => rw [e, State.setLink_link]
  · next e => exact State.setLink_link_ne s x (Ne.symm e)

theorem State.setLink_setLink (s : State) (l : Link) (r x : Receiver) :
    (s.setLink l r).setLink l x = s.setLink l x := by
  simp [State.setLink]

/-! ### Link mute (R36, R37) -/

/-- The mute components of all channels once link mute has followed the links from as they are to `x` (R36, R37). -/
def State.remuted (s : State) (x : Vector Receiver 4) : Vector Chan 192 :=
  Vector.ofFn fun i => s.chans[i].linkMuteChange (linkMuted s.ingress s.links i) (linkMuted s.ingress x i)

/-- Link mute goes by the states of the links alone (R36). -/
theorem linkMuted_congr (g : Vector Window 16) (x y : Vector Receiver 4) (h : ∀ l : Fin 4, x[l].state = y[l].state)
    (i : Fin 192) : linkMuted g x i = linkMuted g y i := by
  unfold linkMuted
  split
  · rfl
  · next w _ => rw [h (windowLink w)]

/-! ### A change of link state (R14, R31, R36) -/

/-- A change that does not take link A into or out of ACCEPTED leaves the clock (R14). -/
theorem State.clockFollows_stays (s : State) (l : Link) (was st : LinkState) (v : Bool)
    (h : l = .a → was ≠ .accepted ∧ st ≠ .accepted) : s.clockFollows l was st v = s := by
  have h1 : ¬(l = .a ∧ was ≠ .accepted ∧ st = .accepted) := fun ⟨ha, _, hs⟩ => (h ha).2 hs
  have h2 : ¬(l = .a ∧ was = .accepted ∧ st ≠ .accepted) := fun ⟨ha, hs, _⟩ => (h ha).1 hs
  rw [State.clockFollows, if_neg h1, if_neg h2]

/-- Link A's entry into ACCEPTED locks the clock (R14). -/
theorem State.clockFollows_locks (s : State) (was : LinkState) (v : Bool) (h : was ≠ .accepted) :
    s.clockFollows .a was .accepted v = s.lock v := by
  rw [State.clockFollows, if_pos ⟨rfl, h, rfl⟩]

/-- Link A's departure from ACCEPTED frees the clock (R14). -/
theorem State.clockFollows_unlocks (s : State) (st : LinkState) (v : Bool) (h : st ≠ .accepted) :
    s.clockFollows .a .accepted st v = s.unlock := by
  rw [State.clockFollows, if_neg (fun e => e.2.1 rfl), if_pos ⟨rfl, rfl, h⟩]

/-- The receiver of a link that has gone to state `st`. -/
def State.movedTo (s : State) (l : Link) (st : LinkState) (via : Option BufFrame) : Receiver :=
  { s.link l with state := st, buf := bufferOn l st via }

theorem State.moveLink_self (s : State) (l : Link) (st : LinkState) (via : Option BufFrame) (h : (s.link l).state = st) :
    s.moveLink l st via = s := by
  rw [State.moveLink, if_pos h]

/-- The state of an event that makes receiver l, in another state than before, the receiver `x`, the clock apart (R31, R36). -/
def State.linkMoved (s : State) (l : Link) (x : Receiver) : State :=
  { s with
    links := s.links.set (linkIdx l) x
    report := s.report.setItem (.link l)
    chans := s.remuted (s.links.set (linkIdx l) x) }

@[simp] theorem State.linkMoved_link (s : State) (l m : Link) (x : Receiver) :
    (s.linkMoved l x).link m = if m = l then x else s.link m :=
  State.link_of_links (s := s) rfl m

@[simp] theorem State.lock_link (s : State) (v : Bool) (m : Link) : (s.lock v).link m = s.link m := rfl

@[simp] theorem State.unlock_link (s : State) (m : Link) : s.unlock.link m = s.link m := rfl

theorem State.moveLink_quiet (s : State) (l : Link) (st : LinkState) (via : Option BufFrame) (h : (s.link l).state ≠ st)
    (hq : l = .a → (s.link l).state ≠ .accepted ∧ st ≠ .accepted) : s.moveLink l st via = s.linkMoved l (s.movedTo l st via) := by
  rw [State.moveLink, if_neg h]
  dsimp only
  rw [State.clockFollows_stays _ _ _ _ _ hq]
  rfl

theorem State.moveLink_locks (s : State) (via : Option BufFrame) (h : (s.link .a).state ≠ .accepted) :
    s.moveLink .a .accepted via = (s.linkMoved .a (s.movedTo .a .accepted via)).lock via.isSome := by
  rw [State.moveLink, if_neg h]
  dsimp only
  rw [State.clockFollows_locks _ _ _ h]
  rfl

theorem State.moveLink_unlocks (s : State) (st : LinkState) (via : Option BufFrame) (h : (s.link .a).state = .accepted)
    (hst : st ≠ .accepted) : s.moveLink .a st via = (s.linkMoved .a (s.movedTo .a st via)).unlock := by
  rw [State.moveLink, if_neg (fun e => hst (e.symm.trans h)), h]
  dsimp only
  rw [State.clockFollows_unlocks _ _ _ hst]
  rfl

/-- The three things a change of link state can be: of no consequence to the clock, a lock or an unlock (R14). -/
theorem State.moveLink_cases (s : State) (l : Link) (st : LinkState) (via : Option BufFrame) (h : (s.link l).state ≠ st) :
    ((l = .a → (s.link l).state ≠ .accepted ∧ st ≠ .accepted) ∧ s.moveLink l st via = s.linkMoved l (s.movedTo l st via)) ∨
    (l = .a ∧ st = .accepted ∧ s.moveLink l st via = (s.linkMoved l (s.movedTo l st via)).lock via.isSome) ∨
    (l = .a ∧ (s.link l).state = .accepted ∧ st ≠ .accepted ∧ s.moveLink l st via = (s.linkMoved l (s.movedTo l st via)).unlock) := by
  by_cases hl : l = .a
  · subst hl
    by_cases hst : st = .accepted
    · subst hst
      exact .inr (.inl ⟨rfl, rfl, State.moveLink_locks s via h⟩)
    · by_cases hw : (s.link .a).state = .accepted
      · exact .inr (.inr ⟨rfl, hw, hst, State.moveLink_unlocks s st via hw hst⟩)
      · exact .inl ⟨fun _ => ⟨hw, hst⟩, State.moveLink_quiet s .a st via h fun _ => ⟨hw, hst⟩⟩
  · exact .inl ⟨fun e => absurd e hl, State.moveLink_quiet s l st via h fun e => absurd e hl⟩

/-- The receivers after a change of state: the moved one, and the others as they were. -/
theorem State.moveLink_link (s : State) (l m : Link) (st : LinkState) (via : Option BufFrame)
    (h : (s.link l).state ≠ st) : (s.moveLink l st via).link m = if m = l then s.movedTo l st via else s.link m := by
  rcases s.moveLink_cases l st via h with ⟨_, e⟩ | ⟨_, _, e⟩ | ⟨_, _, _, e⟩
  · rw [e, State.linkMoved_link]
  · rw [e, State.lock_link, State.linkMoved_link]
  · rw [e, State.unlock_link, State.linkMoved_link]

end Sys2Proof.Machine
end

section
namespace Sys2Proof.Machine

/-! ### The parts of an engine frame, one behind the other -/

theorem State.frameMoves_eq (s : State) (src : FrameSource) : ∃ eg rp,
    s.frameMoves src = { (s.frameEvents src).advanceRamps with egress := eg, report := rp } :=
  State.advancePunches_touches _

/-- The channel samples of a frame (R46). -/
def State.channelSamples (m : State) (src : FrameSource) : Vector Int 192 :=
  Vector.ofFn fun i => polarise m.chans[i].polarity (m.rawSample src i)

/-- The output samples of a frame for the slots from `base` on (R102, R117). -/
def State.resultSamples (m : State) (src : FrameSource) (base : Nat) (h : base ≤ 64) : Samples :=
  m.outputs (Vector.ofFn (m.rawSample src)) (m.channelSamples src) (m.computeBuses (m.channelSamples src)).out base h

/-- Noting the clips changes of a bus its clip state alone (R111). -/
theorem State.noteClips_buses (s : State) (v : Vector Bool 64) (b : Fin 64) :
    (s.noteClips v).buses[b] = { s.buses[b] with clipping := (s.noteClips v).buses[b].clipping } := by
  refine State.foldl_touches (P := fun s t : State => t.buses[b] = { s.buses[b] with clipping := t.buses[b].clipping })
    (fun _ => rfl) ?_ ?_ _ s
  · intro s t u hst htu
    rw [htu, hst]
  · intro s c
    rw [State.noteClip]
    by_cases h : c.val = b.val
    · obtain rfl := Fin.ext h
      simp
    · simp [h]

theorem State.computeFrame_eq (m : State) (src : FrameSource) :
    m.computeFrame src = (m.noteClips (m.computeBuses (m.channelSamples src)).clipped).holdResults
      (m.resultSamples src 0 (by omega)) (m.resultSamples src 64 (by omega)) := by
  have hx : Vector.ofFn (fun i : Fin 192 => polarise m.chans[i].polarity (Vector.ofFn (fun i => m.rawSample src i))[i]) =
      m.channelSamples src := by
    simp [State.channelSamples]
  unfold State.computeFrame
  dsimp only
  rw [hx]
  rfl

/-- The sums and the sweep leave a frame's moves, but for the clip states, the matrix, the sweep and the results. -/
theorem State.computeFrame_sweepVisits (m : State) (src : FrameSource) : ∃ bu rp mx sw,
    (m.computeFrame src).sweepVisits =
      { m with
        buses := bu, report := rp, matrix := mx, sweep := sw, heldOld := m.heldNew
        heldNew := ⟨m.tracker.pos, m.tracker.rolling, m.resultSamples src 0 (by omega), m.resultSamples src 64 (by omega)⟩ } ∧
    ∀ b : Fin 64, bu[b] = { m.buses[b] with clipping := bu[b].clipping } := by
  obtain ⟨mx, rp, sw, h⟩ := State.sweepVisits_touches (m.computeFrame src)
  rw [h, State.computeFrame_eq]
  generalize (m.computeBuses (m.channelSamples src)).clipped = v
  generalize m.resultSamples src 0 _ = x
  generalize m.resultSamples src 64 _ = y
  have hb := State.noteClips_buses m v
  obtain ⟨bu, rp2, hc⟩ := State.noteClips_touches m v
  rw [hc] at hb ⊢
  exact ⟨bu, rp, mx, sw, rfl, hb⟩

/-- Tracker and automation leave what the frame's start has made of links, responses and the pair sent. -/
theorem State.frameEvents_of_start (s : State) (src : FrameSource) : ∃ ch gr bu mx eg tr q rp,
    s.frameEvents src =
      { s.frameStart with
        chans := ch, groups := gr, buses := bu, matrix := mx, egress := eg, tracker := tr, queue := q, report := rp } := by
  obtain ⟨tr, q0, rp0, h1⟩ := State.track_touches s.frameStart src
  obtain ⟨ch, gr, bu, mx, eg, rp, q, h2⟩ := State.automate_touches (s.frameStart.track src)
  rw [State.frameEvents, h2, h1]
  exact ⟨ch, gr, bu, mx, eg, tr, q, rp, rfl⟩

/-- An engine frame, its moves and results apart, is what its start has made of the state. -/
theorem State.frameMoves_of_start (s : State) (src : FrameSource) : ∃ ch gr bu mx eg tr q rp,
    s.frameMoves src =
      { s.frameStart with
        chans := ch, groups := gr, buses := bu, matrix := mx, egress := eg, tracker := tr, queue := q, report := rp } := by
  obtain ⟨_, _, h2⟩ := State.frameMoves_eq s src
  obtain ⟨_, _, _, _, _, _, _, _, h1⟩ := State.frameEvents_of_start s src
  rw [h2, h1]
  exact ⟨_, _, _, _, _, _, _, _, rfl⟩

/-- From its start on an engine frame leaves the links, the response queue and the pair sent. -/
theorem State.engineFrame_of_start (s : State) (src : FrameSource) :
    (s.engineFrame src).links = s.frameStart.links ∧ (s.engineFrame src).responses = s.frameStart.responses ∧
      (s.engineFrame src).sent = s.frameStart.sent := by
  obtain ⟨_, _, _, _, _, _, _, _, h1⟩ := State.frameMoves_of_start s src
  obtain ⟨_, _, _, _, h2, _⟩ := State.computeFrame_sweepVisits (s.frameMoves src) src
  rw [State.engineFrame, h2]
  dsimp only
  rw [h1]
  exact ⟨rfl, rfl, rfl⟩

/-- The tracker of an engine frame is set by its source alone (R132). -/
theorem State.engineFrame_tracker (s : State) (src : FrameSource) :
    (s.engineFrame src).tracker = (s.frameStart.track src).tracker := by
  obtain ⟨_, _, _, h5⟩ := State.sweepVisits_touches ((s.frameMoves src).computeFrame src)
  obtain ⟨_, _, _, _, h4⟩ := State.computeFrame_touches (s.frameMoves src) src
  obtain ⟨_, _, h3⟩ := State.advancePunches_touches (s.frameEvents src).advanceRamps
  obtain ⟨_, _, _, _, _, _, _, h2⟩ := State.automate_touches (s.frameStart.track src)
  rw [State.engineFrame, h5, h4, State.frameMoves, h3, State.frameEvents, h2]
  rfl

@[simp] theorem State.engineFrame_clock (s : State) (src : FrameSource) : (s.engineFrame src).clock = s.clock := by
  obtain ⟨_, _, _, _, _, _, _, _, _, _, _, _, _, _, h⟩ := State.engineFrame_touches s src
  rw [h]

end Sys2Proof.Machine
end

section
namespace Sys2Proof.Machine

/-! ### What keeps the links and the clock in agreement -/

/-- The invariant of the links and the clock. -/
def LinksOk (s : State) : Prop := ClockOk s ∧ ReceiversOk s

/-- The links, the clock and the tracker are the same. -/
def State.SameLinks (s t : State) : Prop := t.links = s.links ∧ t.clock = s.clock ∧ t.tracker = s.tracker

theorem State.SameLinks.refl (s : State) : s.SameLinks s := ⟨rfl, rfl, rfl⟩

theorem State.SameLinks.trans {s t u : State} (h : s.SameLinks t) (k : t.SameLinks u) : s.SameLinks u :=
  ⟨k.1.trans h.1, k.2.1.trans h.2.1, k.2.2.trans h.2.2⟩

theorem ClockOk.of_same {s t : State} (hs : ClockOk s) (ha : (t.link .a).state = (s.link .a).state)
    (hc : t.clock.state = s.clock.state) (hr : t.tracker.rolling = s.tracker.rolling) : ClockOk t := by
  unfold ClockOk
  rw [ha, hc, hr]
  exact hs

theorem LinksOk.of_sameLinks {s t : State} (h : s.SameLinks t) (hs : LinksOk s) : LinksOk t := by
  obtain ⟨hl, hc, ht⟩ := h
  have link : ∀ l, t.link l = s.link l := fun l => by rw [State.link, State.link, hl]
  exact ⟨hs.1.of_same (by rw [link]) (by rw [hc]) (by rw [ht]), fun l => by rw [link]; exact hs.2 l⟩

theorem LinksOk.addCount {s : State} (hs : LinksOk s) (n : Fin 84) : LinksOk (s.addCount n) :=
  LinksOk.of_sameLinks (s := s) ⟨rfl, rfl, rfl⟩ hs

/-- One receiver written anew, link A's state and the clock being as they were. -/
theorem LinksOk.setLink {s : State} (hs : LinksOk s) (l : Link) (r : Receiver) (hr : r.ok l)
    (hst : r.state = (s.link l).state) : LinksOk (s.setLink l r) := by
  refine ⟨hs.1.of_same ?_ rfl rfl, fun m => ?_⟩
  · by_cases h : l = .a
    · subst h
      rw [State.setLink_link, hst]
    · rw [State.setLink_link_ne s r h]
  · by_cases h : l = m
    · subst h
      rw [State.setLink_link]
      exact hr
    · rw [State.setLink_link_ne s r h]
      exact hs.2 m

/-! ### Changes of link state -/

/-- A link that has gone to a state has the buffer of that state (R10). -/
theorem Receiver.ok_moved (l : Link) (r : Receiver) (st : LinkState) (via : Option BufFrame) (hb : r.badRun ≤ 7)
    (ha : st = .absent ↔ r.ann = none) (hr : st = .sensing → r.run ≤ 15) :
    Receiver.ok l { r with state := st, buf := bufferOn l st via } := by
  refine ⟨hb, ha, hr, ?_⟩
  unfold bufferOn
  by_cases hl : l = .a
  · simp [hl, idleBuffer]
  · by_cases hs : st = .accepted
    · cases via <;> simp [hl, hs, primed]
    · simp [hl, hs, idleBuffer]

/-- R14: the clock and link A still agree after link l has gone to another state. -/
theorem ClockOk.moveLink {s : State} (hs : ClockOk s) (l : Link) (st : LinkState) (via : Option BufFrame) :
    ClockOk (s.moveLink l st via) := by
  by_cases h : (s.link l).state = st
  · rw [State.moveLink_self _ _ _ _ h]
    exact hs
  rcases s.moveLink_cases l st via h with ⟨hq, e⟩ | ⟨rfl, rfl, e⟩ | ⟨rfl, _, hst, e⟩
  · rw [e]
    refine ⟨?_, hs.2⟩
    rw [State.linkMoved_link]
    split
    · next ha =>
      subst ha
      exact iff_of_false (fun hc => (hq rfl).1 (hs.1.1 hc)) (hq rfl).2
    · exact hs.1
  · rw [e]
    refine ⟨iff_of_true rfl ?_, fun hc => nomatch hc⟩
    rw [State.lock_link, State.linkMoved_link, if_pos rfl, State.movedTo]
  · rw [e]
    refine ⟨iff_of_false (fun hc => nomatch hc) ?_, fun _ => rfl⟩
    rw [State.unlock_link, State.linkMoved_link, if_pos rfl, State.movedTo]
    exact hst

/-- A link goes to another state, the receiver's other parts `r` being set just before. -/
theorem LinksOk.setLink_moveLink {s : State} (hs : LinksOk s) (l : Link) (r : Receiver) (st : LinkState)
    (via : Option BufFrame) (hst : r.state = (s.link l).state) (hne : r.state ≠ st) (hb : r.badRun ≤ 7)
    (ha : st = .absent ↔ r.ann = none) (hr : st = .sensing → r.run ≤ 15) :
    LinksOk ((s.setLink l r).moveLink l st via) := by
  have hne' : ((s.setLink l r).link l).state ≠ st := by rwa [State.setLink_link]
  have hc : ClockOk (s.setLink l r) := by
    refine hs.1.of_same ?_ rfl rfl
    by_cases h : l = .a
    · subst h
      rw [State.setLink_link, hst]
    · rw [State.setLink_link_ne s r h]
  refine ⟨hc.moveLink l st via, fun m => ?_⟩
  rw [State.moveLink_link _ _ _ _ _ hne']
  split
  · next e =>
    subst e
    rw [State.movedTo, State.setLink_link]
    exact Receiver.ok_moved m r st via hb ha hr
  · next e =>
    rw [State.setLink_link_ne s r (Ne.symm e)]
    exact hs.2 m

theorem State.setLink_self (s : State) (l : Link) : s.setLink l (s.link l) = s := by
  simp [State.setLink, State.link]

/-- A link goes to another state, its other parts being as they were. -/
theorem LinksOk.moveLink {s : State} (hs : LinksOk s) (l : Link) (st : LinkState) (via : Option BufFrame)
    (ha : st = .absent ↔ (s.link l).ann = none) (hr : st = .sensing → (s.link l).run ≤ 15) :
    LinksOk (s.moveLink l st via) := by
  by_cases h : (s.link l).state = st
  · rwa [State.moveLink_self _ _ _ _ h]
  · have := hs.setLink_moveLink l (s.link l) st via rfl h (hs.2 l).1 ha hr
    rwa [State.setLink_self] at this

/-! ### The receivers' events (R22 to R30) -/

theorem LinksOk.loseLink {s : State} (hs : LinksOk s) (l : Link) (h : (s.link l).state ≠ .absent) :
    LinksOk (s.loseLink l) :=
  hs.setLink_moveLink l { s.link l with ann := none, run := 0, badRun := 0, lastGood := zeroSamples } .absent none rfl h
    (Nat.zero_le 7) (iff_of_true rfl rfl) (fun _ => Nat.zero_le 15)

theorem LinksOk.beginSensing {s : State} (hs : LinksOk s) (l : Link) (f : LinkFrame) (h : (s.link l).state ≠ .sensing) :
    LinksOk (s.beginSensing l f) :=
  hs.setLink_moveLink l { s.link l with ann := some f.ann, run := 1, badRun := 0, lastGood := f.samples } .sensing none
    rfl h (Nat.zero_le 7) (iff_of_false (fun e => nomatch e) (Option.some_ne_none _)) (fun _ => by decide : _ → 1 ≤ 15)

/-- A link that is not ABSENT has an announcement, whatever else of it is written. -/
theorem LinksOk.keepFrame {s : State} (hs : LinksOk s) (l : Link) (f : LinkFrame) : LinksOk (s.keepFrame l f) := by
  obtain ⟨_, rest⟩ := hs.2 l
  exact hs.setLink l { s.link l with badRun := 0, lastGood := f.samples } ⟨Nat.zero_le 7, rest⟩ rfl

theorem LinksOk.senseFrame {s : State} (hs : LinksOk s) (l : Link) (f : LinkFrame) (h : (s.link l).state = .sensing) :
    LinksOk (s.senseFrame l f) := by
  obtain ⟨_, _, hrun, hbuf⟩ := hs.2 l
  have hann : LinkState.sensing = .absent ↔ some f.ann = none := iff_of_false (fun e => nomatch e) (Option.some_ne_none _)
  unfold State.senseFrame
  dsimp only
  generalize hn : (if 1 ≤ (s.link l).run ∧ (s.link l).ann = some f.ann then (s.link l).run + 1 else 1) = n
  have hle : n ≤ 16 := by
    have := hrun h
    split at hn <;> omega
  split
  · rw [State.classify, State.setLink_link]
    refine hs.setLink_moveLink l { s.link l with ann := some f.ann, run := n, badRun := 0, lastGood := f.samples } _ _ rfl
      ?_ (Nat.zero_le 7) ?_ ?_
    · dsimp only
      rw [h]
      split <;> exact fun e => nomatch e
    · exact iff_of_false (by split <;> exact fun e => nomatch e) (Option.some_ne_none _)
    · split <;> exact fun e => nomatch e
  · next hne =>
    have hlt : n ≤ 15 := by
      have : n ≠ 16 := hne
      omega
    exact hs.setLink l { s.link l with ann := some f.ann, run := n, badRun := 0, lastGood := f.samples }
      ⟨Nat.zero_le 7, by dsimp only; rw [h]; exact hann, fun _ => hlt, hbuf⟩ rfl

theorem Elastic.join_state (b : Elastic) (f : BufFrame) :
    (b.join f).state = if b.state = .priming ∧ 2 ≤ (b.join f).frames.length then .running else b.state := rfl

/-- A frame that joins the buffer of an ACCEPTED link B, C or D (R10, R11). -/
theorem LinksOk.joinBuffer {s : State} (hs : LinksOk s) (l : Link) (f : BufFrame) (hl : l ≠ .a)
    (h : (s.link l).state = .accepted) : LinksOk (s.joinBuffer l f) := by
  obtain ⟨hbad, hann, hrun, hlen, hprim, hidle, _⟩ := hs.2 l
  have hact : (s.link l).buf.state ≠ .idle := fun e => (hidle.1 e).elim hl (fun e => e h)
  have hst : ((s.link l).buf.join f).state ≠ .idle := by
    rw [Elastic.join_state]
    split
    · exact fun e => nomatch e
    · exact hact
  refine LinksOk.of_sameLinks (s := s.setLink l { s.link l with buf := (s.link l).buf.join f }) ⟨rfl, rfl, rfl⟩ ?_
  refine hs.setLink l _ ⟨hbad, hann, hrun, Elastic.join_length _ _ hlen, ?_, ?_, fun e => absurd e hst⟩ rfl
  · rw [Elastic.join_state]
    split
    · exact fun e => nomatch e
    · next hn => exact fun e => Nat.lt_succ_iff.1 (Nat.lt_of_not_le fun h2 => hn ⟨e, h2⟩)
  · exact iff_of_false hst (fun e => e.elim hl (fun e => e h))

theorem LinksOk.receive {s : State} (hs : LinksOk s) (l : Link) (f : LinkFrame) : LinksOk (s.receive l f) := by
  unfold State.receive
  split
  · next h => exact hs.beginSensing l f (by rw [h]; exact fun e => nomatch e)
  · next h => exact hs.senseFrame l f h
  · next h =>
    split
    · split
      · exact hs.keepFrame l f
      · next hl =>
        refine (hs.keepFrame l f).joinBuffer l _ hl ?_
        rw [State.keepFrame, State.setLink_link]
        exact h
    · exact hs.beginSensing l f (by rw [h]; exact fun e => nomatch e)
  · next h =>
    split
    · exact hs.keepFrame l f
    · exact hs.beginSensing l f (by rw [h]; exact fun e => nomatch e)

theorem LinksOk.failQuiet {s : State} (hs : LinksOk s) (l : Link) (run : Nat) (h : (s.link l).state ≠ .absent)
    (hr : (s.link l).state = .sensing → run ≤ 15) : LinksOk (s.failQuiet l run) := by
  obtain ⟨_, hann, _, hbuf⟩ := hs.2 l
  unfold State.failQuiet
  split
  · exact hs.loseLink l h
  · next hn =>
    exact hs.setLink l { s.link l with run := run, badRun := (s.link l).badRun + 1 }
      ⟨Nat.lt_succ_iff.1 (Nat.lt_of_not_le hn), hann, hr, hbuf⟩ rfl

theorem LinksOk.failAccepted {s : State} (hs : LinksOk s) (l : Link) (bad : Bool) (h : (s.link l).state = .accepted) :
    LinksOk (s.failAccepted l bad) := by
  have counted : ∀ t : State, s.SameLinks t → (t.link l = s.link l) ∧ LinksOk t := fun t ht =>
    ⟨by rw [State.link, State.link, ht.1], hs.of_sameLinks ht⟩
  have hsame : s.SameLinks (if bad then s.addCount (badFramesOf l) else s) := by
    split <;> exact State.SameLinks.refl _
  unfold State.failAccepted
  dsimp only
  revert hsame
  generalize (if bad then s.addCount (badFramesOf l) else s) = t
  intro hsame
  obtain ⟨hlink, ht⟩ := counted t hsame
  obtain ⟨_, rest⟩ := hs.2 l
  split
  · exact ht.loseLink l (by rw [hlink, h]; exact fun e => nomatch e)
  · next hn =>
    have hset : LinksOk (t.setLink l { s.link l with badRun := (s.link l).badRun + 1 }) :=
      ht.setLink l _ ⟨Nat.lt_succ_iff.1 (Nat.lt_of_not_le hn), rest⟩ (by rw [hlink])
    have hcount := hset.addCount (repeatsOf l)
    unfold State.repeatFrame
    dsimp only
    split
    · exact hcount
    · next hl =>
      refine hcount.joinBuffer l _ hl ?_
      rw [State.addCount_link, State.setLink_link]
      exact h

theorem LinksOk.failFrame {s : State} (hs : LinksOk s) (l : Link) (bad : Bool) : LinksOk (s.failFrame l bad) := by
  unfold State.failFrame
  split
  · exact hs
  · next h => exact hs.failQuiet l 0 (by rw [h]; exact fun e => nomatch e) (fun _ => Nat.zero_le 15)
  · next h => exact hs.failAccepted l bad h
  · next h =>
    exact hs.failQuiet l _ (by rw [h]; exact fun e => nomatch e) (fun e => by rw [h] at e; exact nomatch e)

theorem LinksOk.reclassify {s : State} (hs : LinksOk s) (w : List Nat) (l : Link) : LinksOk (s.reclassify w l) := by
  unfold State.reclassify
  split
  · exact hs
  · next a ha =>
    split
    · refine hs.moveLink l _ none ?_ ?_
      · exact iff_of_false (by split <;> exact fun e => nomatch e) (by rw [ha]; exact Option.some_ne_none _)
      · split <;> exact fun e => nomatch e
    · exact hs

/-! ### Commands (R158): only WRITE_TABLE reaches the links -/

theorem State.sameLinks_writeRecords (space : Fin 8) (idx : Nat) (recs : List (List Octet)) (s : State) :
    s.SameLinks (State.writeRecords space idx recs s).state := by
  obtain ⟨_, _, _, _, _, _, _, h⟩ := State.writeRecords_touches space idx recs s
  rw [h]
  exact ⟨rfl, rfl, rfl⟩

theorem LinksOk.afterWrite {w : State} (hw : LinksOk w) (s : State) (space : Fin 8) (idx n : Nat) :
    LinksOk (s.afterWrite w space idx n) := by
  unfold State.afterWrite
  split
  · exact (((hw.reclassify _ .a).reclassify _ .b).reclassify _ .c).reclassify _ .d
  · exact hw.of_sameLinks ⟨State.reviewMutes_links _ _ _, State.reviewMutes_clock _ _ _, State.reviewMutes_tracker _ _ _⟩
  · exact hw

theorem LinksOk.doWriteTable {s : State} (hs : LinksOk s) (p : List Octet) : LinksOk (doWriteTable p s).state := by
  unfold Machine.doWriteTable
  split
  · exact hs
  · split
    · exact hs
    · dsimp only
      split
      · exact hs
      · exact (hs.of_sameLinks (State.sameLinks_writeRecords _ _ _ s)).afterWrite _ _ _ _

theorem State.sameLinks_doWriteField (p : List Octet) (s : State) : s.SameLinks (doWriteField p s).state := by
  unfold doWriteField
  split
  · exact State.SameLinks.refl s
  · next s1 h1 =>
    obtain ⟨_, _, _, _, _, _, _, h⟩ := State.writeOneField_only _ _ _ _ _ s1 h1
    rw [Reply.only, h]
    exact ⟨rfl, rfl, rfl⟩

theorem State.sameLinks_gainCell (s : State) (n : Fin 8) (code : Int) : s.SameLinks (s.gainCell n code) := by
  unfold State.gainCell
  split <;> exact State.SameLinks.refl _

theorem State.sameLinks_gainCells (n : Fin 8) (l : List Int) (s : State) : s.SameLinks (State.gainCells n l s).1 := by
  induction l generalizing s with
  | nil => exact State.SameLinks.refl _
  | cons code rest ih => exact (State.sameLinks_gainCell s n code).trans (ih _)

theorem State.sameLinks_readCells (n : Nat) (s : State) : s.SameLinks (State.readCells n s).1 := by
  induction n generalizing s with
  | zero => exact State.SameLinks.refl _
  | succ n ih => exact ih s.stepWindow

theorem State.sameLinks_applyMove (s : State) (m : Move) : s.SameLinks (s.applyMove m) := by
  obtain ⟨_, _, _, _, _, _, h⟩ := State.applyMove_touches s m
  rw [h]
  exact State.SameLinks.refl s

theorem State.sameLinks_takeEvents (l : List (List Octet)) (n : Nat) (s : State) :
    s.SameLinks (State.takeEvents l n s).state := by
  induction l generalizing n s with
  | nil => exact State.SameLinks.refl _
  | cons o rest ih =>
    unfold State.takeEvents
    split
    · exact State.SameLinks.refl _
    · split
      · exact (State.sameLinks_applyMove s _).trans (ih _ _)
      · split
        · exact ih _ _
        · exact State.SameLinks.refl _

theorem State.sameLinks_punchRun (s : State) (a b : Nat) (into : Bool) : s.SameLinks (s.punchRun a b into) := by
  refine State.foldl_touches State.SameLinks.refl (fun _ _ _ => State.SameLinks.trans) ?_ _ s
  intro s j
  split
  · split <;> exact State.SameLinks.refl _
  · exact State.SameLinks.refl _

/-- No command but WRITE_TABLE, kind 03h, reaches the links, the clock or the tracker. -/
theorem State.sameLinks_doCommand (k : Nat) (p : List Octet) (s : State) (hk : k ≠ 3) :
    s.SameLinks (doCommand k p s).state := by
  have r := State.SameLinks.refl s
  unfold doCommand
  split
  · exact r
  · unfold doReadTable
    split
    · exact r
    · dsimp only
      split <;> exact r
  · exact absurd rfl hk
  · exact State.sameLinks_doWriteField p s
  · unfold doSetWindow
    split <;> exact r
  · unfold doWriteGains
    split
    · exact r
    · split
      · exact r
      · exact State.sameLinks_gainCells _ _ _
  · unfold doReadGains
    dsimp only
    split
    · exact State.sameLinks_readCells _ _
    · exact r
  · unfold doMatrixClear
    split
    · exact r
    · split <;> exact r
  · exact State.sameLinks_takeEvents _ _ _
  · exact r
  · unfold doPunch
    dsimp only
    split
    · exact r
    · split
      · exact r
      · exact State.sameLinks_punchRun _ _ _ _
  · exact r
  · unfold doClearFlags
    split <;> exact r
  · unfold doTestAndClear
    split <;> exact r
  · unfold doReadCounters
    dsimp only
    split
    · split
      · exact r
      · simp only [Reply.withData]
        split <;> exact ⟨rfl, rfl, rfl⟩
    · exact r
  · exact ⟨State.engineReset_links s, State.engineReset_clock s, State.engineReset_tracker s⟩
  · exact r

theorem LinksOk.execute {s : State} (hs : LinksOk s) (m : Message) : LinksOk (s.execute m) := by
  have hrun : LinksOk (runMessage m s).state := by
    unfold runMessage
    split
    · exact hs
    · split
      · exact hs
      · by_cases hk : m.kind.toNat = 3
        · rw [hk]
          exact hs.doWriteTable m.payload
        · exact hs.of_sameLinks (State.sameLinks_doCommand _ _ s hk)
  exact LinksOk.of_sameLinks (s := (runMessage m s).state) ⟨rfl, rfl, rfl⟩ hrun

theorem LinksOk.takeMessage {s : State} (hs : LinksOk s) : LinksOk s.takeMessage := by
  unfold State.takeMessage
  split
  · exact hs
  · next m rest _ =>
    split
    · exact LinksOk.execute (s := { s with commands := rest }) (LinksOk.of_sameLinks (s := s) ⟨rfl, rfl, rfl⟩ hs) m
    · exact hs

theorem LinksOk.submit {s : State} (hs : LinksOk s) (m : Message) : LinksOk (s.submit m) := by
  refine State.takeMessages_keeps (P := LinksOk) (fun _ => LinksOk.takeMessage) _ _ ?_
  obtain ⟨_, _, h⟩ := State.joinMessage_touches s m
  rw [h]
  exact LinksOk.of_sameLinks (s := s) ⟨rfl, rfl, rfl⟩ hs

/-! ### The engine frame -/

theorem Elastic.take_frames_of_ne_running (b : Elastic) (h : b.state ≠ .running) : b.take.frames = b.frames := by
  unfold Elastic.take
  split
  · rfl
  · rfl
  · next hr => exact absurd hr h

/-- A take leaves the receiver whole (R12). -/
theorem LinksOk.takeBuffer {s : State} (hs : LinksOk s) (l : Link) : LinksOk (s.takeBuffer l) := by
  obtain ⟨hbad, hann, hrun, hlen, hprim, hidle, hempty⟩ := hs.2 l
  refine LinksOk.of_sameLinks (s := s.setLink l { s.link l with buf := (s.link l).buf.take }) ⟨rfl, rfl, rfl⟩ ?_
  refine hs.setLink l _ ⟨hbad, hann, hrun, (Elastic.take_length _).trans hlen, ?_, ?_, ?_⟩ rfl
  · rw [Elastic.take_state]
    exact fun e => (Elastic.take_length _).trans (hprim e)
  · rw [Elastic.take_state]
    exact hidle
  · rw [Elastic.take_state]
    intro e
    rw [Elastic.take_frames_of_ne_running _ (by rw [e]; exact fun e => nomatch e)]
    exact hempty e

theorem LinksOk.frameStart {s : State} (hs : LinksOk s) : LinksOk s.frameStart := by
  have h : LinksOk { s.compose with report := s.compose.report.lowerTimer } :=
    LinksOk.of_sameLinks (s := s) ⟨rfl, rfl, rfl⟩ hs
  exact ((h.takeBuffer .b).takeBuffer .c).takeBuffer .d

/-- An engine frame keeps the agreement when its source does not let the transport roll in FREE (R134). -/
theorem LinksOk.engineFrame {s : State} (hs : LinksOk s) (src : FrameSource)
    (hroll : s.clock.state = .free → (s.engineFrame src).tracker.rolling = false) : LinksOk (s.engineFrame src) := by
  have hlink : ∀ l, (s.engineFrame src).link l = s.frameStart.link l := fun l => by
    rw [State.link, State.link, (State.engineFrame_of_start s src).1]
  obtain ⟨hclock, hrec⟩ := hs.frameStart
  refine ⟨⟨?_, ?_⟩, fun l => by rw [hlink]; exact hrec l⟩
  · rw [hlink, State.engineFrame_clock]
    exact hclock.1
  · rw [State.engineFrame_clock]
    exact hroll

/-- In LOCKED no engine frame can break R134. -/
theorem LinksOk.engineFrame_of_paced {s : State} (hs : LinksOk s) (src : FrameSource) (hp : s.paced = true) :
    LinksOk (s.engineFrame src) := by
  rw [State.paced, Bool.and_eq_true, beq_iff_eq, beq_iff_eq] at hp
  exact hs.engineFrame src fun h => nomatch h.symm.trans hp.2

/-- An oscillator's frame stops the transport (R132). -/
theorem LinksOk.engineFrame_oscillator {s : State} (hs : LinksOk s) : LinksOk (s.engineFrame .oscillator) :=
  hs.engineFrame .oscillator fun _ => by rw [State.engineFrame_tracker]; rfl

/-! ### The rows of the table -/

theorem LinksOk.endEvent {s : State} (hs : LinksOk s) (l : Link) (n : Nat) (src : FrameSource) :
    LinksOk (s.endEvent l n src) :=
  State.endEvent_keeps (P := LinksOk) src (fun _ => LinksOk.takeMessage) (fun _ hp h => h.engineFrame_of_paced src hp) s l n hs

/-- An interval noted changes neither the clock's state nor anything else of the links (R17). -/
theorem LinksOk.of_clock {s : State} (hs : LinksOk s) (k : Clock) (hk : k.state = s.clock.state) :
    LinksOk { s with clock := k } := ⟨hs.1.of_same rfl hk rfl, hs.2⟩

@[simp] theorem Clock.arrival_state (k : Clock) (dt : Nat) : (k.arrival dt).state = k.state := by
  unfold Clock.arrival
  split <;> rfl

theorem LinksOk.noteArrival {s : State} (hs : LinksOk s) (l : Link) (before : ClockState) (dt : Nat) :
    LinksOk (s.noteArrival l before dt) := by
  unfold State.noteArrival
  split
  · exact hs.of_clock _ (Clock.arrival_state _ _)
  · exact hs

theorem LinksOk.noteMissed {s : State} (hs : LinksOk s) (l : Link) : LinksOk (s.noteMissed l) := by
  unfold State.noteMissed
  split
  · exact hs.of_clock _ rfl
  · exact hs

theorem LinksOk.readLane {s : State} (hs : LinksOk s) (l : Link) (w : List Octet) : LinksOk (s.readLane l w) := by
  obtain ⟨_, _, _, h⟩ := State.readLane_touches s l w
  rw [h]
  exact LinksOk.of_sameLinks (s := s) ⟨rfl, rfl, rfl⟩ hs

theorem LinksOk.breakLane {s : State} (hs : LinksOk s) (l : Link) (was : LinkState) : LinksOk (s.breakLane l was) := by
  obtain ⟨_, _, h⟩ := State.breakLane_touches s l was
  rw [h]
  exact LinksOk.of_sameLinks (s := s) ⟨rfl, rfl, rfl⟩ hs

theorem LinksOk.passEvent {s : State} (hs : LinksOk s) (l : Link) (f : LinkFrame) (dt late : Nat) :
    LinksOk (s.passEvent l f dt late) :=
  (((hs.receive l f).noteArrival l _ dt).readLane l _).endEvent l _ _

theorem LinksOk.badEvent {s : State} (hs : LinksOk s) (l : Link) (dt : Nat) : LinksOk (s.badEvent l dt) := by
  unfold State.badEvent
  split
  · exact hs
  · exact (((hs.failFrame l true).noteArrival l _ dt).breakLane l _).endEvent l _ _

theorem LinksOk.missingEvent {s : State} (hs : LinksOk s) (l : Link) : LinksOk (s.missingEvent l) := by
  unfold State.missingEvent
  split
  · exact hs
  · exact (((hs.failFrame l false).noteMissed l).breakLane l _).endEvent l _ _

theorem LinksOk.periodEvent {s : State} (hs : LinksOk s) : LinksOk s.periodEvent :=
  State.periodEvent_keeps (P := LinksOk) (fun _ => LinksOk.takeMessage) (fun _ _ h => h.engineFrame_oscillator) s hs

theorem State.reset_link (l : Link) : State.reset.link l = Receiver.reset := by
  simp [State.link, State.reset]

theorem LinksOk.reset : LinksOk State.reset := by
  refine ⟨⟨?_, fun _ => rfl⟩, fun l => ?_⟩
  · rw [State.reset_link]
    exact iff_of_false (fun e => nomatch e) (fun e => nomatch e)
  · rw [State.reset_link]
    simp [Receiver.ok, Receiver.reset, idleBuffer]

/-- Every row of the table keeps the links and the clock in agreement. -/
theorem LinksOk.exec {s t : State} (hs : LinksOk s) (c : Instr) (h : exec c s = .next t) : LinksOk t := by
  have taken : ∀ n, LinksOk (State.takeMessages n s) := fun n =>
    State.takeMessages_keeps (P := LinksOk) (fun _ => LinksOk.takeMessage) n s hs
  cases c with
  | passingFrame l o dt n =>
    rw [Machine.exec, execPassingFrame] at h
    split at h
    · cases h
      exact (taken _).passEvent l _ dt _
    · cases h
      exact (taken _).badEvent l dt
  | badFrame l dt =>
    cases h
    exact hs.badEvent l dt
  | missingFrame l =>
    cases h
    exact hs.missingEvent l
  | oscillatorPeriod =>
    cases h
    exact hs.periodEvent
  | startUpReset =>
    cases h
    exact LinksOk.of_sameLinks (s := State.reset) ⟨rfl, rfl, rfl⟩ LinksOk.reset
  | rampCompletion r c =>
    rw [Machine.exec, execRampCompletion] at h
    split at h
    · cases h
      split
      · exact LinksOk.of_sameLinks (s := s) ⟨rfl, rfl, rfl⟩ hs
      · exact hs
    · cases h
      exact hs
  | punchArrival i =>
    cases h
    split
    · exact LinksOk.of_sameLinks (s := s) ⟨rfl, rfl, rfl⟩ hs
    · exact hs
  | sweepCompletion =>
    cases h
    split
    · obtain ⟨_, _, _, e⟩ := State.sweepVisits_touches s
      rw [e]
      exact LinksOk.of_sameLinks (s := s) ⟨rfl, rfl, rfl⟩ hs
    · exact hs
  | coalescingTimerExpiry =>
    rw [Machine.exec, execCoalescingTimerExpiry] at h
    split at h
    · cases h
      split
      · exact LinksOk.of_sameLinks (s := s) ⟨rfl, rfl, rfl⟩ hs
      · exact hs
    · cases h
      exact hs
  | noticeComposition =>
    cases h
    exact LinksOk.of_sameLinks (s := s) ⟨rfl, rfl, rfl⟩ hs
  | _ =>
    cases h
    exact hs.submit _

theorem LinksOk.step {s t : State} (hs : LinksOk s) (h : step s = .next t) : LinksOk t := by
  unfold Machine.step at h
  split at h
  · cases h
    exact hs.takeMessage
  · next c rest _ =>
    exact LinksOk.exec (s := { s with pending := rest }) (LinksOk.of_sameLinks (s := s) ⟨rfl, rfl, rfl⟩ hs) c h

/-- Settles O57: each operation on the links keeps `LinksOk`, no command but WRITE_TABLE reaches them, and an engine frame
only takes from the buffers. -/
theorem linksAndClockKept : Obligations.LinksAndClockKept := fun _ _ hc hr h => LinksOk.step ⟨hc, hr⟩ h

end Sys2Proof.Machine
end

section
namespace Sys2Proof.Machine

/-! ### Link mute written out (R36, R37) -/

theorem Chan.linkMuteChange_eq (c : Chan) (was now : Bool) :
    c.linkMuteChange was now =
      if was = false ∧ now = true then { c with mute := (⟨-960, -960, 0, 0⟩ : Ramp) }
      else if was = true ∧ now = false ∧ c.opMute = false then { c with mute := (⟨c.mute.cur, 0, 960, 0⟩ : Ramp) }
      else c := by
  unfold Chan.linkMuteChange
  cases was <;> cases now <;> cases c.opMute <;> rfl

theorem State.remuted_eq (s : State) (x : Vector Receiver 4) :
    s.remuted x = Vector.ofFn fun i : Fin 192 =>
      if linkMuted s.ingress s.links i = false ∧ linkMuted s.ingress x i = true then
        { s.chans[i] with mute := (⟨-960, -960, 0, 0⟩ : Ramp) }
      else if linkMuted s.ingress s.links i = true ∧ linkMuted s.ingress x i = false ∧ s.chans[i].opMute = false then
        { s.chans[i] with mute := (⟨s.chans[i].mute.cur, 0, 960, 0⟩ : Ramp) }
      else s.chans[i] := by
  unfold State.remuted
  congr 1
  funext i
  exact Chan.linkMuteChange_eq _ _ _

/-- The receivers' states once one receiver has another state. -/
theorem state_set (x : Vector Receiver 4) (l : Link) (r : Receiver) (m : Fin 4) :
    (x.set (linkIdx l) r)[m].state = if m = linkIdx l then r.state else x[m].state := by
  split
  · next h =>
    subst h
    simp
  · next h =>
    have hv : (linkIdx l).val ≠ m.val := fun e => h (Fin.ext e.symm)
    simp [hv]

/-- No channel is released from link mute by a link's going to a state other than ACCEPTED (R36). -/
theorem linkMuted_set_of_ne_accepted (g : Vector Window 16) (x : Vector Receiver 4) (l : Link) (r : Receiver)
    (hr : r.state ≠ .accepted) (i : Fin 192) (h : linkMuted g x i = true) :
    linkMuted g (x.set (linkIdx l) r) i = true := by
  unfold linkMuted at h ⊢
  split at h
  · rfl
  · rw [state_set]
    split
    · exact bne_iff_ne.2 hr
    · exact h

theorem State.remuted_of_ne_accepted (s : State) (l : Link) (r : Receiver) (hr : r.state ≠ .accepted) :
    s.remuted (s.links.set (linkIdx l) r) = Vector.ofFn fun i : Fin 192 =>
      if linkMuted s.ingress s.links i = false ∧ linkMuted s.ingress (s.links.set (linkIdx l) r) i = true then
        { s.chans[i] with mute := (⟨-960, -960, 0, 0⟩ : Ramp) }
      else s.chans[i] := by
  rw [State.remuted_eq]
  congr 1
  funext i
  have hno : ¬(linkMuted s.ingress s.links i = true ∧ linkMuted s.ingress (s.links.set (linkIdx l) r) i = false ∧
      s.chans[i].opMute = false) := by
    rintro ⟨hwas, hnow, _⟩
    rw [linkMuted_set_of_ne_accepted _ _ _ _ hr _ hwas] at hnow
    exact nomatch hnow
  rw [if_neg hno]

/-! ### A receiver written anew and moved (R23 to R30) -/

theorem bufferOn_of_ne (l : Link) (st : LinkState) (via : Option BufFrame) (h : st ≠ .accepted) :
    bufferOn l st via = idleBuffer := by
  rw [bufferOn, if_neg h, ite_self]

theorem bufferOn_a (st : LinkState) (via : Option BufFrame) : bufferOn .a st via = idleBuffer := rfl

theorem bufferOn_accepted (l : Link) (via : Option BufFrame) (h : l ≠ .a) : bufferOn l .accepted via = primed via := by
  rw [bufferOn, if_neg h, if_pos rfl]

/-- A receiver's other parts being written just before, its move is one write of the receiver. -/
theorem State.setLink_linkMoved (s : State) (l : Link) (r x : Receiver) (h : r.state = (s.link l).state) :
    (s.setLink l r).linkMoved l x = s.linkMoved l x := by
  have hlinks : (s.setLink l r).links.set (linkIdx l) x = s.links.set (linkIdx l) x := by simp [State.setLink]
  have hmuted : ∀ i, linkMuted s.ingress (s.setLink l r).links i = linkMuted s.ingress s.links i := fun i => by
    refine linkMuted_congr _ _ _ (fun m => ?_) i
    rw [State.setLink, state_set]
    split
    · next e =>
      rw [h, e]
      rfl
    · rfl
  have hchans : (s.setLink l r).remuted (s.links.set (linkIdx l) x) = s.remuted (s.links.set (linkIdx l) x) := by
    unfold State.remuted
    congr 1
    funext i
    rw [State.setLink_ingress, hmuted]
    rfl
  unfold State.linkMoved
  rw [hlinks, hchans]
  rfl

/-- A move of a receiver written just before that does not take link A into or out of ACCEPTED. -/
theorem State.setLink_moveLink_quiet (s : State) (l : Link) (r : Receiver) (st : LinkState) (via : Option BufFrame)
    (hr : r.state = (s.link l).state) (h : (s.link l).state ≠ st)
    (hq : l = .a → (s.link l).state ≠ .accepted ∧ st ≠ .accepted) :
    (s.setLink l r).moveLink l st via = s.linkMoved l { r with state := st, buf := bufferOn l st via } := by
  rw [State.moveLink_quiet _ _ _ _ (by rwa [State.setLink_link, hr]) (by rwa [State.setLink_link, hr]),
    State.setLink_linkMoved _ _ _ _ hr, State.movedTo, State.setLink_link]

theorem State.setLink_moveLink_unlocks (s : State) (r : Receiver) (st : LinkState) (via : Option BufFrame)
    (hr : r.state = (s.link .a).state) (h : (s.link .a).state = .accepted) (hst : st ≠ .accepted) :
    (s.setLink .a r).moveLink .a st via = (s.linkMoved .a { r with state := st, buf := idleBuffer }).unlock := by
  rw [State.moveLink_unlocks _ _ _ (by rwa [State.setLink_link, hr]) hst,
    State.setLink_linkMoved _ _ _ _ hr, State.movedTo, State.setLink_link, bufferOn_a]

theorem State.setLink_moveLink_locks (s : State) (r : Receiver) (via : Option BufFrame)
    (hr : r.state = (s.link .a).state) (h : (s.link .a).state ≠ .accepted) :
    (s.setLink .a r).moveLink .a .accepted via =
      (s.linkMoved .a { r with state := .accepted, buf := idleBuffer }).lock via.isSome := by
  rw [State.moveLink_locks _ _ (by rwa [State.setLink_link, hr]),
    State.setLink_linkMoved _ _ _ _ hr, State.movedTo, State.setLink_link, bufferOn_a]

/-- The receiver that a first passing frame leaves (R23, R29, R30). -/
def Receiver.begun (f : LinkFrame) : Receiver := ⟨.sensing, some f.ann, 1, 0, f.samples, idleBuffer⟩

theorem State.beginSensing_quiet (s : State) (l : Link) (f : LinkFrame) (h : (s.link l).state ≠ .sensing)
    (hq : l = .a → (s.link l).state ≠ .accepted) : s.beginSensing l f = s.linkMoved l (.begun f) := by
  rw [State.beginSensing, State.setLink_moveLink_quiet _ _ _ _ _ (by rfl) h (fun e => ⟨hq e, fun e => nomatch e⟩),
    bufferOn_of_ne l .sensing none (fun e => nomatch e)]
  rfl

theorem State.beginSensing_unlocks (s : State) (f : LinkFrame) (h : (s.link .a).state = .accepted) :
    s.beginSensing .a f = (s.linkMoved .a (.begun f)).unlock :=
  State.setLink_moveLink_unlocks _ _ _ _ rfl h (fun e => nomatch e)

/-- A link lost (R25, R28, R30) has the receiver of a reset. -/
theorem State.loseLink_quiet (s : State) (l : Link) (h : (s.link l).state ≠ .absent)
    (hq : l = .a → (s.link l).state ≠ .accepted) : s.loseLink l = s.linkMoved l .reset := by
  rw [State.loseLink, State.setLink_moveLink_quiet _ _ _ _ _ (by rfl) h (fun e => ⟨hq e, fun e => nomatch e⟩),
    bufferOn_of_ne l .absent none (fun e => nomatch e)]
  rfl

theorem State.loseLink_unlocks (s : State) (h : (s.link .a).state = .accepted) :
    s.loseLink .a = (s.linkMoved .a .reset).unlock :=
  State.setLink_moveLink_unlocks _ _ _ _ rfl h (fun e => nomatch e)

/-! ### A passing frame in SENSING (R24, R26) -/

/-- The run count that a passing frame leaves in SENSING (R24). -/
def Receiver.runAfter (r : Receiver) (f : LinkFrame) : Nat := if 1 ≤ r.run ∧ r.ann = some f.ann then r.run + 1 else 1

theorem State.senseFrame_of_ne (s : State) (l : Link) (f : LinkFrame) (h : (s.link l).runAfter f ≠ 16) :
    s.senseFrame l f = s.setLink l
      { s.link l with ann := some f.ann, run := (s.link l).runAfter f, badRun := 0, lastGood := f.samples } :=
  if_neg h

theorem State.senseFrame_classifies (s : State) (l : Link) (f : LinkFrame) (h : (s.link l).runAfter f = 16) :
    s.senseFrame l f =
      (s.setLink l { s.link l with ann := some f.ann, run := 16, badRun := 0, lastGood := f.samples }).moveLink l
        (if admits s.accept f.ann then .accepted else .rejected) (some (.received f.samples)) := by
  have hs : s.senseFrame l f = (s.setLink l { s.link l with
      ann := some f.ann, run := (s.link l).runAfter f, badRun := 0, lastGood := f.samples }).classify l
        (.received f.samples) := if_pos h
  rw [hs, h, State.classify, State.setLink_link]
  rfl

/-! ### Rows of the links -/

/-- An event that leaves the engine unpaced ends without takes and without an engine frame (R15). -/
theorem State.endEvent_unpaced (s : State) (l : Link) (n : Nat) (src : FrameSource) (h : l = .a → s.paced = false) :
    s.endEvent l n src = s := by
  unfold State.endEvent
  split
  · next e =>
    have hp := h e
    have ht : State.takesWhile State.paced n s = s := by
      cases n with
      | zero => rfl
      | succ n => rw [State.takesWhile, if_neg (by rw [hp]; exact Bool.false_ne_true)]
    dsimp only
    rw [ht, if_neg (by rw [hp]; exact Bool.false_ne_true)]
  · rfl

theorem State.paced_of_free (s : State) (h : s.clock.state = .free) : s.paced = false := by
  rw [State.paced, h]
  exact Bool.and_false _

theorem State.noteArrival_of_free (s : State) (l : Link) (before : ClockState) (dt : Nat)
    (h : l = .a → before = .free ∨ s.clock.state = .free) : s.noteArrival l before dt = s := by
  refine if_neg ?_
  rintro ⟨hl, hb, hc⟩
  rcases h hl with e | e
  · exact nomatch e.symm.trans hb
  · exact nomatch e.symm.trans hc

@[simp] theorem State.takeLane_clock (s : State) (w : List Octet) : (s.takeLane w).clock = s.clock := by
  obtain ⟨_, _, _, h⟩ := State.takeLane_touches s w
  rw [h]

theorem exec_passingFrame {o : List Octet} {f : LinkFrame} (hf : parseFrame o = some f) (l : Link) (dt n : Nat) (s : State) :
    exec (.passingFrame l o dt ⟨0, n⟩) s = .next (s.passEvent l f dt n) := by
  rw [exec, execPassingFrame, hf]
  rfl

/-- A passing frame that leaves the clock FREE makes no engine frame (R9, R15, R17). -/
theorem State.passEvent_of_free (s : State) (l : Link) (f : LinkFrame) (dt n : Nat)
    (h : l = .a → (s.receive l f).clock.state = .free) :
    s.passEvent l f dt n = if l = .a then (s.receive l f).takeLane f.lane else s.receive l f := by
  rw [State.passEvent, State.takeFrame, State.noteArrival_of_free _ _ _ _ (fun e => .inr (h e))]
  rw [State.endEvent_unpaced, State.readLane]
  intro e
  refine State.paced_of_free _ ?_
  rw [State.readLane, if_pos e, State.takeLane_clock]
  exact h e

end Sys2Proof.Machine
end

section
namespace Sys2Proof.Machine

/-! ### A passing frame at its receiver, state by state (R23, R24, R26 to R30) -/

theorem State.receive_absent {s : State} {l : Link} (h : (s.link l).state = .absent) (f : LinkFrame) :
    s.receive l f = s.linkMoved l (.begun f) := by
  have hs : s.receive l f = s.beginSensing l f := by rw [State.receive, h]
  rw [hs]
  exact s.beginSensing_quiet l f (by rw [h]; exact fun e => nomatch e) (fun _ => by rw [h]; exact fun e => nomatch e)

theorem State.receive_sensing {s : State} {l : Link} (h : (s.link l).state = .sensing) (f : LinkFrame) :
    s.receive l f = s.senseFrame l f := by
  rw [State.receive, h]

theorem State.receive_accepted {s : State} {l : Link} {f : LinkFrame} (h : (s.link l).state = .accepted)
    (ha : (s.link l).ann = some f.ann) :
    s.receive l f = if l = .a then s.keepFrame l f else (s.keepFrame l f).joinBuffer l (.received f.samples) := by
  rw [State.receive, h, ha]
  exact if_pos rfl

theorem State.receive_rejected {s : State} {l : Link} {f : LinkFrame} (h : (s.link l).state = .rejected)
    (ha : (s.link l).ann = some f.ann) : s.receive l f = s.keepFrame l f := by
  rw [State.receive, h, ha]
  exact if_pos rfl

theorem State.receive_other {s : State} {l : Link} {f : LinkFrame}
    (h : (s.link l).state = .accepted ∨ (s.link l).state = .rejected) (ha : (s.link l).ann ≠ some f.ann) :
    s.receive l f = s.beginSensing l f := by
  rcases h with h | h <;> simp only [State.receive, h, if_neg ha]

/-- The row of a passing frame that leaves the clock FREE (R9, R15). -/
theorem exec_passingFrame_of_free {o : List Octet} {f : LinkFrame} (hf : parseFrame o = some f) (s t : State) (l : Link)
    (dt n : Nat) (hr : s.receive l f = t) (hc : l = .a → t.clock.state = .free) :
    exec (.passingFrame l o dt ⟨0, n⟩) s = .next (if l = .a then t.takeLane f.lane else t) := by
  subst hr
  rw [exec_passingFrame hf, State.passEvent_of_free s l f dt n hc]

/-- R24: a passing frame in SENSING that does not complete the run. -/
theorem State.receive_senses {s : State} {l : Link} {f : LinkFrame} {n : Nat} (h : (s.link l).state = .sensing)
    (hn : (s.link l).runAfter f = n) (hne : n ≠ 16) :
    s.receive l f = s.setLink l ⟨.sensing, some f.ann, n, 0, f.samples, (s.link l).buf⟩ := by
  subst hn
  rw [State.receive_sensing h, State.senseFrame_of_ne _ _ _ hne, ← h]

/-- R24, R26: the classifying frame of a link other than A, or of A when it is not admitted. -/
theorem State.receive_classifies {s : State} {l : Link} {f : LinkFrame} (h : (s.link l).state = .sensing)
    (hrun : (s.link l).run = 15) (ha : (s.link l).ann = some f.ann) (hl : l = .a → admits s.accept f.ann = false) :
    s.receive l f = s.linkMoved l
      ⟨if admits s.accept f.ann then .accepted else .rejected, some f.ann, 16, 0, f.samples,
        if admits s.accept f.ann then primed (some (.received f.samples)) else idleBuffer⟩ := by
  have hr : (s.link l).runAfter f = 16 := by rw [Receiver.runAfter, hrun, ha]; simp
  have hne : (s.link l).state ≠ if admits s.accept f.ann then .accepted else .rejected := by
    rw [h]
    split <;> exact fun e => nomatch e
  rw [State.receive_sensing h, State.senseFrame_classifies _ _ _ hr, State.setLink_moveLink_quiet _ _ _ _ _ (by rfl) hne]
  · cases hb : admits s.accept f.ann with
    | false => simp [bufferOn_of_ne]
    | true =>
      have hla : l ≠ .a := fun e => nomatch (hl e).symm.trans hb
      simp [bufferOn_accepted l _ hla]
  · intro e
    rw [h, hl e]
    exact ⟨(fun e => nomatch e), (fun e => nomatch e)⟩

theorem admits_iff (accept : Vector AcceptRec 16) (a : Announcement) :
    admits accept a = true ↔
      accept[a.cls].accept = true ∧ accept[a.cls].min ≤ a.slots ∧ a.slots ≤ accept[a.cls].max := by
  simp [admits]

/-- The state of a moved link, each part written out (R36, R37). -/
theorem State.linkMoved_eq (s : State) (l : Link) (x : Receiver) :
    s.linkMoved l x = { s with
      links := s.links.set (linkIdx l) x
      report := s.report.setItem (.link l)
      chans := Vector.ofFn fun i : Fin 192 =>
        if linkMuted s.ingress s.links i = false ∧ linkMuted s.ingress (s.links.set (linkIdx l) x) i = true then
          { s.chans[i] with mute := (⟨-960, -960, 0, 0⟩ : Ramp) }
        else if linkMuted s.ingress s.links i = true ∧ linkMuted s.ingress (s.links.set (linkIdx l) x) i = false ∧
            s.chans[i].opMute = false then { s.chans[i] with mute := (⟨s.chans[i].mute.cur, 0, 960, 0⟩ : Ramp) }
        else s.chans[i] } := by
  rw [State.linkMoved, State.remuted_eq]

/-- Settles O44: in each state of the receiver the row is `receive`, written out by the receiver's case, and the lane. -/
theorem passingFrameAtReceiver : Obligations.PassingFrameAtReceiver := by
  intro s l o f dt n hf hfree
  have row := fun (t : State) hr hc => exec_passingFrame_of_free hf s t l dt n hr hc
  intro r result place moved idle entry admitted joined
  have hadmits : admits s.accept f.ann = true ↔ admitted := admits_iff _ _
  refine ⟨fun h => ?_, fun h hrun => ?_, fun h hrun ha hne => ?_, fun h hrun ha hadm hl => ?_, fun h hrun ha hadm => ?_,
    fun h ha hl => ?_, fun h ha => ?_, fun h ha => ?_⟩
  · exact row _ ((State.receive_absent h f).trans (State.linkMoved_eq _ _ _)) hfree
  · exact row _ (State.receive_senses h (if_neg hrun) (by decide)) hfree
  · exact row _ (State.receive_senses h (if_pos ⟨hrun, ha⟩) (fun e => hne (Nat.succ.inj e))) hfree
  · refine row _ ((State.receive_classifies h hrun ha (fun e => absurd e hl)).trans ?_) hfree
    rw [if_pos (hadmits.2 hadm), if_pos (hadmits.2 hadm)]
    exact State.linkMoved_eq _ _ _
  · have hno : admits s.accept f.ann = false := by
      rw [← Bool.not_eq_true, hadmits]
      exact hadm
    refine row _ ((State.receive_classifies h hrun ha (fun _ => hno)).trans ?_) hfree
    rw [hno]
    exact State.linkMoved_eq _ _ _
  · refine row _ ?_ (fun e => absurd e hl)
    rw [State.receive_accepted h ha, if_neg hl, State.joinBuffer, State.keepFrame, State.setLink_link,
      State.setLink_setLink]
    rfl
  · exact row _ (State.receive_rejected h ha) hfree
  · refine row _ ((State.receive_other (h.symm.imp And.left id) ha).trans ?_) hfree
    rw [State.beginSensing_quiet]
    · exact State.linkMoved_eq _ _ _
    · rcases h with h | ⟨h, _⟩ <;> exact fun e => nomatch h.symm.trans e
    · intro hl
      rcases h with h | ⟨_, h⟩
      · exact fun e => nomatch h.symm.trans e
      · exact absurd hl h

end Sys2Proof.Machine
end

section
namespace Sys2Proof.Machine

/-! ### A failed frame at its receiver (R8, R11, R25, R28, R30) -/

/-- The state of a lost link, each part written out: no channel is released from link mute (R36). -/
theorem State.linkMoved_lost (s : State) (l : Link) :
    s.linkMoved l .reset = { s with
      links := s.links.set (linkIdx l) .reset
      report := s.report.setItem (.link l)
      chans := Vector.ofFn fun i : Fin 192 =>
        if linkMuted s.ingress s.links i = false ∧ linkMuted s.ingress (s.links.set (linkIdx l) .reset) i = true then
          { s.chans[i] with mute := (⟨-960, -960, 0, 0⟩ : Ramp) }
        else s.chans[i] } := by
  rw [State.linkMoved, State.remuted_of_ne_accepted _ _ _ (by decide)]

theorem State.failFrame_sensing {s : State} {l : Link} (h : (s.link l).state = .sensing) (bad : Bool) :
    s.failFrame l bad = s.failQuiet l 0 := by
  rw [State.failFrame, h]

theorem State.failFrame_accepted {s : State} {l : Link} (h : (s.link l).state = .accepted) (bad : Bool) :
    s.failFrame l bad = s.failAccepted l bad := by
  rw [State.failFrame, h]

theorem State.failFrame_rejected {s : State} {l : Link} (h : (s.link l).state = .rejected) (bad : Bool) :
    s.failFrame l bad = s.failQuiet l (s.link l).run := by
  rw [State.failFrame, h]

/-- R25, R30: a failed frame in SENSING or REJECTED that is not the eighth. -/
theorem State.failQuiet_of_lt (s : State) (l : Link) (run : Nat) (h : (s.link l).badRun < 7) :
    s.failQuiet l run = s.setLink l { s.link l with run := run, badRun := (s.link l).badRun + 1 } :=
  if_neg (by rw [loseAt]; omega)

theorem State.failQuiet_of_le (s : State) (l : Link) (run : Nat) (h : 7 ≤ (s.link l).badRun) :
    s.failQuiet l run = s.loseLink l :=
  if_pos (by rw [loseAt]; omega)

/-- The counter that a bad frame in ACCEPTED adds to before anything else; a missing one adds to none (R8). -/
def Report.countedBad (r : Report) (l : Link) (bad : Bool) : Report := if bad then r.addCount (badFramesOf l) else r

theorem State.failAccepted_eq (s : State) (l : Link) (bad : Bool) :
    s.failAccepted l bad =
      if 7 ≤ (s.link l).badRun then { s with report := s.report.countedBad l bad }.loseLink l
      else ({ s with report := s.report.countedBad l bad }.setLink l
        { s.link l with badRun := (s.link l).badRun + 1 }).repeatFrame l := by
  have hle : loseAt ≤ (s.link l).badRun + 1 ↔ 7 ≤ (s.link l).badRun := by rw [loseAt]; omega
  cases bad <;> simp only [State.failAccepted, hle] <;> rfl

theorem State.addCount_setLink (s : State) (l : Link) (r : Receiver) (n : Fin 84) :
    (s.setLink l r).addCount n = (s.addCount n).setLink l r := rfl

/-- R11: the repeat of a link with a buffer. -/
theorem State.repeatFrame_joins (s : State) (l : Link) (h : l ≠ .a) :
    s.repeatFrame l = (s.addCount (repeatsOf l)).joinBuffer l (.repeated (s.link l).lastGood) := if_neg h

/-- R155: the framer's break. -/
theorem State.frameBreak_eq (s : State) :
    s.frameBreak = { s with
      framer := .hunt
      report := if s.framer = .hunt then s.report else (s.report.addCount 13).setItem .check } := by
  unfold State.frameBreak
  split
  · next h => simp [← h]
  · next h => simp [h, State.failCheck, badCheckCount]
  · next h => simp [h, State.failCheck, badCheckCount]

theorem State.breakLane_eq (s : State) (l : Link) (was : LinkState) (h : was ≠ .absent) :
    s.breakLane l was = if l = .a then s.frameBreak else s := by
  by_cases hl : l = .a <;> simp [State.breakLane, hl, h]

/-- The command of a bad or a missing frame. -/
def failedRow (bad : Bool) (l : Link) (dt : Nat) : Instr := if bad then .badFrame l dt else .missingFrame l

/-- What a failed frame leaves in the framer and, for a missing one, in the interval (R17, R155). -/
def State.failedLane (t : State) (bad : Bool) : State :=
  { t with
    clock := if bad then t.clock else { t.clock with running := false }
    framer := .hunt
    report := if t.framer = .hunt then t.report else (t.report.addCount 13).setItem .check }

theorem exec_failedRow_absent (s : State) (l : Link) (dt : Nat) (bad : Bool) (h : (s.link l).state = .absent) :
    exec (failedRow bad l dt) s = .next s := by
  cases bad with
  | true => exact congrArg _ (if_pos h)
  | false => exact congrArg _ (if_pos h)

/-- The row of a failed frame that leaves the clock FREE (R15, R155). -/
theorem exec_failedRow_of_free (s t : State) (l : Link) (dt : Nat) (bad : Bool) (h : (s.link l).state ≠ .absent)
    (ht : s.failFrame l bad = t) (hc : l = .a → t.clock.state = .free) :
    exec (failedRow bad l dt) s = .next (if l = .a then t.failedLane bad else t) := by
  have unpaced : ∀ u : State, u = (if l = .a then t.failedLane bad else t) → u.endEvent l s.commands.length .failed = u := by
    rintro u rfl
    refine State.endEvent_unpaced _ _ _ _ fun e => State.paced_of_free _ ?_
    rw [if_pos e, State.failedLane]
    cases bad <;> exact hc e
  cases bad with
  | true =>
    have he : exec (failedRow true l dt) s = .next (s.badEvent l dt) := rfl
    have hn : (t.noteArrival l s.clock.state dt).breakLane l (s.link l).state = if l = .a then t.failedLane true else t := by
      rw [State.noteArrival_of_free _ _ _ _ (fun e => .inr (hc e)), State.breakLane_eq _ _ _ h, State.frameBreak_eq]
      rfl
    rw [he, State.badEvent, if_neg h, ht, unpaced _ hn, hn]
  | false =>
    have he : exec (failedRow false l dt) s = .next (s.missingEvent l) := rfl
    have hn : (t.noteMissed l).breakLane l (s.link l).state = if l = .a then t.failedLane false else t := by
      rw [State.breakLane_eq _ _ _ h, State.frameBreak_eq, State.noteMissed]
      split <;> rfl
    rw [he, State.missingEvent, if_neg h, ht, unpaced _ hn, hn]

/-- Settles O45: the row is the receiver's part, and for link A what the failed frame does to framer and interval. -/
theorem failedFrameAtReceiver : Obligations.FailedFrameAtReceiver := by
  intro s l dt bad hA
  have hfree := fun e => (hA e).1
  intro r command result place lost counted repeated joined
  have row : ∀ t, (s.link l).state ≠ .absent → s.failFrame l bad = t → (l = .a → t.clock.state = .free) → result t :=
    fun t => exec_failedRow_of_free s t l dt bad
  refine ⟨exec_failedRow_absent s l dt bad, fun h hlt => ?_, fun h hlt => ?_, fun h hle => ?_, fun h hlt => ?_, fun h hle => ?_⟩
  · refine row _ (fun e => nomatch h.symm.trans e) ?_ hfree
    rw [State.failFrame_sensing h, State.failQuiet_of_lt _ _ _ hlt]
    rfl
  · refine row _ (fun e => nomatch h.symm.trans e) ?_ hfree
    rw [State.failFrame_rejected h, State.failQuiet_of_lt _ _ _ hlt]
    rfl
  · have hne : (s.link l).state ≠ .absent ∧ (s.link l).state ≠ .accepted := by
      rcases h with h | h <;> exact ⟨(fun e => nomatch h.symm.trans e), (fun e => nomatch h.symm.trans e)⟩
    have hlose : s.failFrame l bad = s.loseLink l := by
      rcases h with h | h
      · rw [State.failFrame_sensing h, State.failQuiet_of_le _ _ _ hle]
      · rw [State.failFrame_rejected h, State.failQuiet_of_le _ _ _ hle]
    refine row _ hne.1 (hlose.trans ?_) hfree
    rw [State.loseLink_quiet _ _ hne.1 (fun _ => hne.2)]
    exact State.linkMoved_lost s l
  · have hl : l ≠ .a := fun e => (hA e).2 h
    refine row _ (fun e => nomatch h.symm.trans e) ?_ hfree
    rw [State.failFrame_accepted h, State.failAccepted_eq, if_neg (Nat.not_le.2 hlt), State.repeatFrame_joins _ _ hl,
      State.setLink_link, State.addCount_setLink, State.joinBuffer, State.setLink_link, State.setLink_setLink]
    rfl
  · have hl : l ≠ .a := fun e => (hA e).2 h
    refine row _ (fun e => nomatch h.symm.trans e) ?_ hfree
    rw [State.failFrame_accepted h, State.failAccepted_eq, if_pos hle, State.loseLink_quiet]
    · exact State.linkMoved_lost _ l
    · exact fun e => nomatch h.symm.trans e
    · exact fun e => absurd e hl

end Sys2Proof.Machine
end

section
namespace Sys2Proof.Machine

/-! ### Takes (R158) -/

theorem State.takeMessage_idle {s : State} (h : s.commands = [] ∨ 16 ≤ s.responses.length) : s.takeMessage = s := by
  unfold State.takeMessage
  split
  · rfl
  · next m rest hc =>
    refine if_neg fun hlt => ?_
    rcases h with h | h
    · exact nomatch h.symm.trans hc
    · exact Nat.not_lt.2 h hlt

theorem State.takeMessage_ready {s : State} {m : Message} {rest : List Message} (hc : s.commands = m :: rest)
    (hr : s.responses.length < 16) : s.takeMessage = { s with commands := rest }.execute m := by
  unfold State.takeMessage
  rw [hc]
  exact if_pos hr

theorem State.takeMessages_idle {s : State} (h : s.commands = [] ∨ 16 ≤ s.responses.length) (n : Nat) :
    State.takeMessages n s = s :=
  State.takeMessages_keeps (P := fun t => t = s) (fun t ht => by rw [ht, State.takeMessage_idle h]) n s rfl

theorem State.takesWhile_idle {s : State} (holds : State → Bool) (h : s.commands = [] ∨ 16 ≤ s.responses.length) (n : Nat) :
    State.takesWhile holds n s = s :=
  State.takesWhile_keeps (P := fun t => t = s) holds (fun t _ ht => by rw [ht, State.takeMessage_idle h]) n s rfl

theorem State.takesWhile_of_not {s : State} (holds : State → Bool) (h : holds s = false) (n : Nat) :
    State.takesWhile holds n s = s := by
  cases n with
  | zero => rfl
  | succ n => rw [State.takesWhile, if_neg (by rw [h]; exact Bool.false_ne_true)]

theorem State.takesWhile_succ {s : State} (holds : State → Bool) (h : holds s = true) (n : Nat) :
    State.takesWhile holds (n + 1) s = State.takesWhile holds n s.takeMessage := by
  rw [State.takesWhile, if_pos h]

/-! ### Events of link A in LOCKED (R14, R15, R17) -/

theorem State.paced_iff (s : State) : s.paced = true ↔ (s.link .a).state = .accepted ∧ s.clock.state = .locked := by
  simp [State.paced]

theorem State.free_iff (s : State) : s.free = true ↔ s.clock.state = .free := beq_iff_eq

theorem State.endEvent_a (s : State) (n : Nat) (src : FrameSource) :
    s.endEvent .a n src =
      let t := State.takesWhile State.paced n s
      if (t.link .a).state = .accepted ∧ t.clock.state = .locked then t.engineFrame src else t := by
  rw [State.endEvent, if_pos rfl]
  simp only [State.paced_iff]

theorem State.endEvent_of_free {s : State} (h : s.clock.state = .free) (l : Link) (n : Nat) (src : FrameSource) :
    s.endEvent l n src = s :=
  State.endEvent_unpaced _ _ _ _ fun _ => State.paced_of_free _ h

/-- R17: the interval that an arrival in LOCKED ends. -/
theorem State.noteArrival_locked {s : State} (h : s.clock.state = .locked) (dt : Nat) :
    s.noteArrival .a .locked dt = { s with clock := s.clock.arrival dt } := if_pos ⟨rfl, rfl, h⟩

/-- The row of a passing frame of link A; `t` is the state once the interval is noted. -/
theorem exec_passingFrame_a {o : List Octet} {f : LinkFrame} (hf : parseFrame o = some f) {s t : State} (dt n : Nat)
    (ht : (s.receive .a f).noteArrival .a s.clock.state dt = t) :
    exec (.passingFrame .a o dt ⟨0, n⟩) s =
      .next ((t.takeLane f.lane).endEvent .a (s.commands.length + n) (.passing f.samples f.pos f.rolling)) := by
  subst ht
  exact exec_passingFrame hf .a dt n s

theorem exec_badFrame_a {s t : State} (dt : Nat) (h : (s.link .a).state = .accepted)
    (ht : (s.failFrame .a true).noteArrival .a s.clock.state dt = t) :
    exec (.badFrame .a dt) s = .next (t.frameBreak.endEvent .a s.commands.length .failed) := by
  have hne : (s.link .a).state ≠ .absent := fun e => nomatch h.symm.trans e
  have he : exec (.badFrame .a dt) s = .next (s.badEvent .a dt) := rfl
  rw [he, State.badEvent, if_neg hne, ht, State.breakLane_eq _ _ _ hne, if_pos rfl]

theorem exec_missingFrame_a {s t : State} (h : (s.link .a).state = .accepted)
    (ht : { s.failFrame .a false with clock := { (s.failFrame .a false).clock with running := false } } = t) :
    exec (.missingFrame .a) s = .next (t.frameBreak.endEvent .a s.commands.length .failed) := by
  have hne : (s.link .a).state ≠ .absent := fun e => nomatch h.symm.trans e
  have he : exec (.missingFrame .a) s = .next (s.missingEvent .a) := rfl
  have hm : (s.failFrame .a false).noteMissed .a = t := by rw [← ht]; rfl
  rw [he, State.missingEvent, if_neg hne, hm, State.breakLane_eq _ _ _ hne, if_pos rfl]

/-- A failed frame of link A in ACCEPTED that is not the eighth is counted as bad or not, and as a repeat (R8, R28). -/
theorem State.failFrame_repeats {s : State} (h : (s.link .a).state = .accepted) (hlt : (s.link .a).badRun < 7) (bad : Bool) :
    s.failFrame .a bad = { s with
      links := s.links.set 0 { s.link .a with badRun := (s.link .a).badRun + 1 }
      report := (s.report.countedBad .a bad).addCount 1 } := by
  rw [State.failFrame_accepted h, State.failAccepted_eq, if_neg (Nat.not_le.2 hlt)]
  rfl

/-- The eighth failed frame in a row takes link A out of ACCEPTED (R28). -/
theorem State.failFrame_loses {s : State} (h : (s.link .a).state = .accepted) (hle : 7 ≤ (s.link .a).badRun) (bad : Bool) :
    s.failFrame .a bad = (State.linkMoved { s with report := s.report.countedBad .a bad } .a .reset).unlock := by
  rw [State.failFrame_accepted h, State.failAccepted_eq, if_pos hle]
  exact State.loseLink_unlocks _ h

/-- R26, R27: the frame that classifies link A as accepted. -/
theorem State.receive_locks {s : State} {f : LinkFrame} (h : (s.link .a).state = .sensing) (hrun : (s.link .a).run = 15)
    (ha : (s.link .a).ann = some f.ann) (hadm : admits s.accept f.ann = true) :
    s.receive .a f = (s.linkMoved .a ⟨.accepted, some f.ann, 16, 0, f.samples, idleBuffer⟩).lock true := by
  have hr : (s.link .a).runAfter f = 16 := by rw [Receiver.runAfter, hrun, ha]; simp
  rw [State.receive_sensing h, State.senseFrame_classifies _ _ _ hr, if_pos hadm,
    State.setLink_moveLink_locks _ _ _ (by rfl) (fun e => nomatch h.symm.trans e)]
  rfl

/-- Settles O46: each row of link A is its receiver's part, the takes and the engine frame of `endEvent`; the takes are one
message after another. -/
theorem engineFramePacing : Obligations.EngineFramePacing := by
  intro s o f dt n hf r place passing broken remuted next paced waiting kept span arrival free left
  refine ⟨fun h hlock => ⟨fun ha => ?_, fun ha => ?_, fun hlt => ⟨?_, ?_⟩, fun hle => ⟨?_, ?_⟩⟩, fun h hrun ha hfree h1 h2 h3 => ?_,
    fun hfree => ?_, fun hlock => ?_, fun holds k t => ⟨fun h => ?_, fun m rest h hc hr => ?_⟩,
    fun l octets e => ⟨fun h => ?_, fun m rest hc hr => ?_⟩⟩
  · have ht : (s.receive .a f).noteArrival .a s.clock.state dt =
        { s with links := place { r with badRun := 0, lastGood := f.samples }, clock := arrival } := by
      rw [State.receive_accepted h ha, if_pos rfl, hlock, State.noteArrival_locked (s := s.keepFrame .a f) hlock]
      rfl
    exact (exec_passingFrame_a hf dt n ht).trans (congrArg _ (State.endEvent_a _ _ _))
  · refine (exec_passingFrame_a hf dt n rfl).trans (congrArg _ ?_)
    rw [State.receive_other (.inl h) ha, State.beginSensing_unlocks _ _ h, State.noteArrival_of_free _ _ _ _ (fun _ => .inr rfl),
      State.endEvent_of_free (by rw [State.takeLane_clock]; rfl), State.linkMoved_eq]
    rfl
  · have ht : (s.failFrame .a true).noteArrival .a s.clock.state dt = { s with
        links := place { r with badRun := r.badRun + 1 }
        clock := arrival
        report := (s.report.addCount 0).addCount 1 } := by
      have hc : (s.failFrame .a true).clock.state = .locked := by
        rw [State.failFrame_repeats h hlt]
        exact hlock
      rw [hlock, State.noteArrival_locked hc, State.failFrame_repeats h hlt]
      rfl
    refine (exec_badFrame_a dt h ht).trans (congrArg _ ?_)
    rw [State.endEvent_a, State.frameBreak_eq]
  · refine (exec_missingFrame_a h rfl).trans (congrArg _ ?_)
    rw [State.endEvent_a, State.frameBreak_eq, State.failFrame_repeats h hlt]
    rfl
  · refine (exec_badFrame_a dt h rfl).trans (congrArg _ ?_)
    rw [State.failFrame_loses h hle, State.noteArrival_of_free _ _ _ _ (fun _ => .inr rfl), State.frameBreak_eq,
      State.endEvent_of_free rfl, State.linkMoved_eq]
    rfl
  · refine (exec_missingFrame_a h rfl).trans (congrArg _ ?_)
    rw [State.failFrame_loses h hle, State.frameBreak_eq, State.endEvent_of_free rfl, State.linkMoved_eq]
    rfl
  · have hadm : admits s.accept f.ann = true := (admits_iff _ _).2 ⟨h1, h2, h3⟩
    refine (exec_passingFrame_a hf dt n rfl).trans (congrArg _ ?_)
    rw [State.receive_locks h hrun ha hadm, State.noteArrival_of_free _ _ _ _ (fun _ => .inl hfree), State.endEvent_a,
      State.linkMoved_eq]
    rfl
  · have hp : ∀ t : State, (if t.free = true then t.engineFrame .oscillator else t) =
        if t.clock.state = .free then t.engineFrame .oscillator else t := fun t => by simp only [State.free_iff]
    exact congrArg _ (hp _)
  · have hno : s.free = false := by rw [State.free, hlock]; rfl
    have he : exec .oscillatorPeriod s = .next s.periodEvent := rfl
    refine he.trans (congrArg _ ?_)
    rw [State.periodEvent, State.takesWhile_of_not _ hno, hno]
    rfl
  · rcases h with h | h | h
    · rw [h]
      rfl
    · exact State.takesWhile_of_not holds h k
    · exact State.takesWhile_idle holds h k
  · rw [State.takesWhile_succ holds h, State.takeMessage_ready hc hr]
  · rw [exec, execPassingFrame, State.takeMessages_idle h]
    rfl
  · rw [exec, execPassingFrame, State.takeMessages, State.takeMessage_ready hc hr]
    rfl

end Sys2Proof.Machine
end

section
namespace Sys2Proof.Machine

/-! ### Reclassification (R33, R34) -/

/-- A link whose announcement is of no written class, that is in neither ACCEPTED nor REJECTED, or whose result is the same,
stays (R33). -/
theorem State.reclassify_self (s : State) (w : List Nat) (l : Link)
    (h : ∀ a, (s.link l).ann = some a → (s.link l).state = .accepted ∨ (s.link l).state = .rejected → a.cls.val ∈ w →
      (s.link l).state = if admits s.accept a then .accepted else .rejected) : s.reclassify w l = s := by
  unfold State.reclassify
  split
  · rfl
  · next a ha =>
    split
    · next hc => exact State.moveLink_self _ _ _ _ (h a ha hc.1 hc.2)
    · rfl

theorem State.reclassify_moves (s : State) (w : List Nat) (l : Link) (a : Announcement) (ha : (s.link l).ann = some a)
    (hst : (s.link l).state = .accepted ∨ (s.link l).state = .rejected) (hw : a.cls.val ∈ w) :
    s.reclassify w l = s.moveLink l (if admits s.accept a then .accepted else .rejected) none := by
  simp only [State.reclassify, ha]
  exact if_pos ⟨hst, hw⟩

theorem State.reclassify_link_ne (s : State) (w : List Nat) {l m : Link} (h : m ≠ l) :
    (s.reclassify w l).link m = s.link m := by
  unfold State.reclassify
  split
  · rfl
  · next a _ =>
    split
    · by_cases hst : (s.link l).state = if admits s.accept a then .accepted else .rejected
      · rw [State.moveLink_self _ _ _ _ hst]
      · rw [State.moveLink_link _ _ _ _ _ hst, if_neg h]
    · rfl

/-- R33: all four links are looked at, but only link l is of a written class. -/
theorem State.reclassify_only (s : State) (w : List Nat) (l : Link)
    (h : ∀ m, m ≠ l → ∀ a, (s.link m).ann = some a → a.cls.val ∉ w) :
    (((s.reclassify w .a).reclassify w .b).reclassify w .c).reclassify w .d = s.reclassify w l := by
  have before : ∀ m, m ≠ l → s.reclassify w m = s := fun m hm =>
    State.reclassify_self s w m fun a ha _ hw => absurd hw (h m hm a ha)
  have behind : ∀ m, m ≠ l → (s.reclassify w l).reclassify w m = s.reclassify w l := fun m hm =>
    State.reclassify_self _ w m fun a ha _ hw => by
      rw [State.reclassify_link_ne s w hm] at ha
      exact absurd hw (h m hm a ha)
  cases l with
  | a => rw [behind .b (by decide), behind .c (by decide), behind .d (by decide)]
  | b => rw [before .a (by decide), behind .c (by decide), behind .d (by decide)]
  | c => rw [before .a (by decide), before .b (by decide), behind .d (by decide)]
  | d => rw [before .a (by decide), before .b (by decide), before .c (by decide)]

/-- The move of a link that is classified again, link A taking the clock with it (R14, R17, R34, R36, R37). -/
theorem State.moveLink_reclassified (s : State) (l : Link) (st : LinkState) (h : (s.link l).state ≠ st)
    (hs : st = .accepted ∨ st = .rejected ∧ (s.link l).state = .accepted) :
    s.moveLink l st none = { s.linkMoved l { s.link l with
        state := st, buf := ⟨if st = .accepted ∧ l ≠ .a then .priming else .idle, [], zeroSamples⟩ } with
      clock := if l = .a then
          { s.clock with state := if st = .accepted then .locked else .free, kept := [], running := false }
        else s.clock
      tracker := if l = .a then { s.tracker with rolling := if st = .accepted then s.tracker.rolling else false }
        else s.tracker
      report := if l = .a then (s.report.setItem (.link .a)).setItem .clock else s.report.setItem (.link l) } := by
  by_cases hl : l = .a
  · subst hl
    rcases hs with rfl | ⟨rfl, hw⟩
    · rw [State.moveLink_locks _ _ h]
      rfl
    · rw [State.moveLink_unlocks _ _ _ hw (by decide)]
      rfl
  · rw [State.moveLink_quiet _ _ _ _ h (fun e => absurd e hl), State.movedTo, if_neg hl, if_neg hl, if_neg hl]
    rcases hs with rfl | ⟨rfl, hw⟩
    · rw [bufferOn_accepted _ _ hl, if_pos ⟨rfl, hl⟩]
      rfl
    · rw [bufferOn_of_ne _ _ _ (by decide), if_neg (fun e => nomatch e.1)]
      rfl

/-! ### WRITE_TABLE of one ACCEPT record (R32, R165) -/

theorem acceptFields?_refused (a lo hi : Octet)
    (h : 1 < a.toNat ∨ lo.toNat = 0 ∨ hi.toNat < lo.toNat ∨ 64 < hi.toNat) : acceptFields? [a, lo, hi] = none := by
  have hrange : ¬(1 ≤ lo.toNat ∧ lo.toNat ≤ hi.toNat ∧ hi.toNat ≤ 64) ∨ 1 < a.toNat := by omega
  rcases hrange with hr | ha
  · simp only [acceptFields?, List.getD_cons_zero, List.getD_cons_succ, if_neg hr]
    cases bit? a.toNat <;> rfl
  · have hb : bit? a.toNat = none := by
      rw [bit?, if_neg (by omega), if_neg (by omega)]
    simp only [acceptFields?, List.getD_cons_zero, hb]
    rfl

theorem acceptFields?_taken (a lo hi : Octet) (ha : a.toNat ≤ 1) (h1 : 1 ≤ lo.toNat) (h2 : lo.toNat ≤ hi.toNat)
    (h3 : hi.toNat ≤ 64) : acceptFields? [a, lo, hi] = some ⟨decide (a.toNat = 1), lo.toNat, hi.toNat⟩ := by
  have hb : bit? a.toNat = some (decide (a.toNat = 1)) := by
    unfold bit?
    have : a.toNat = 0 ∨ a.toNat = 1 := by omega
    rcases this with h | h <;> simp [h]
  simp only [acceptFields?, List.getD_cons_zero, List.getD_cons_succ, hb, h1, h2, h3, and_self, if_true]
  rfl

theorem index?_of_lt {n x : Nat} (h : x < n) : index? n x = some ⟨x, h⟩ := dif_pos h

theorem index?_of_le {n x : Nat} (h : n ≤ x) : index? n x = none := dif_neg (Nat.not_lt.2 h)

/-- One record of ACCEPT: written when its fields and its index are in range, else refused with RANGE (R32). -/
theorem State.writeRecords_accept (s : State) (idx : Nat) (o : List Octet) :
    State.writeRecords 3 idx [o] s =
      match index? 16 idx, acceptFields? o with
      | some i, some a => ⟨{ s with accept := s.accept.set i a }, 1, none⟩
      | _, _ => ⟨s, 0, some .range⟩ := by
  have hw : s.writeRecord 3 idx o = s.writeAccept idx o := rfl
  rw [State.writeRecords, hw, State.writeAccept]
  cases index? 16 idx <;> cases acceptFields? o <;> rfl

theorem doWriteTable_accept (s : State) (idx a lo hi : Octet) (w : TableWrite)
    (hw : State.writeRecords 3 idx.toNat [[a, lo, hi]] s = w) :
    doWriteTable [3#8, idx, a, lo, hi] s =
      .counted (s.afterWrite w.state 3 idx.toNat w.count) (w.refusal.getD .ok) w.count := by
  have hspace : index? 8 (List.getD [3#8, idx, a, lo, hi] 0 0).toNat = some 3 := rfl
  subst hw
  rw [doWriteTable, if_neg (by simp), hspace]
  exact if_neg (by simp [recordSize])

/-- The whole command, a table of one ACCEPT record (R165). -/
theorem exec_writeTable_accept (s : State) (h : s.ready) (tag idx a lo hi : Octet) (w : TableWrite)
    (hw : State.writeRecords 3 idx.toNat [[a, lo, hi]] s = w) :
    exec (.writeTable tag [3#8, idx, a, lo, hi]) s =
      .next ((s.afterWrite w.state 3 idx.toNat w.count).respond 0x83#8 tag [(w.refusal.getD .ok).octet, octet w.count]) := by
  have hrun : runMessage ⟨3#8, tag, [3#8, idx, a, lo, hi]⟩ s =
      ⟨s.afterWrite w.state 3 idx.toNat w.count, [(w.refusal.getD .ok).octet, octet w.count]⟩ :=
    doWriteTable_accept s idx a lo hi w hw
  have he : exec (.writeTable tag [3#8, idx, a, lo, hi]) s = .next (s.submit ⟨3#8, tag, [3#8, idx, a, lo, hi]⟩) := rfl
  rw [he, State.submit_ready _ _ h, State.execute_reply _ _ _ _ hrun]
  rfl

theorem State.afterWrite_accept (s w : State) (idx n : Nat) :
    s.afterWrite w 3 idx n =
      (((w.reclassify ((List.range n).map (· + idx)) .a).reclassify ((List.range n).map (· + idx)) .b).reclassify
        ((List.range n).map (· + idx)) .c).reclassify ((List.range n).map (· + idx)) .d := rfl

/-- Settles O17: the record is judged by `acceptFields?`, and of the links of its class, here one at most, `reclassify` says
what becomes. -/
theorem writeAcceptRecord : Obligations.WriteAcceptRecord := by
  intro s hready
  refine ⟨fun tag idx a lo hi h => ?_, fun tag a lo hi k ha h1 h2 h3 => ?_⟩
  · have hw : State.writeRecords 3 idx.toNat [[a, lo, hi]] s = ⟨s, 0, some .range⟩ := by
      rw [State.writeRecords_accept]
      rcases h with h | h
      · rw [index?_of_le h]
      · rw [acceptFields?_refused a lo hi h]
        cases index? 16 idx.toNat <;> rfl
    have hstay : s.afterWrite s 3 idx.toNat 0 = s := by
      rw [State.afterWrite_accept, List.range_zero, List.map_nil,
        State.reclassify_only _ _ .a (fun m _ n _ => List.not_mem_nil),
        State.reclassify_self _ _ _ (fun n _ _ hn => absurd hn List.not_mem_nil)]
    rw [exec_writeTable_accept s hready tag idx a lo hi _ hw, hstay]
    rfl
  · intro command written answered
    have hk : (BitVec.ofNat 8 k.val : Octet).toNat = k.val := by
      rw [BitVec.toNat_ofNat]
      omega
    have hw : State.writeRecords 3 (BitVec.ofNat 8 k.val : Octet).toNat [[a, lo, hi]] s = ⟨written, 1, none⟩ := by
      rw [State.writeRecords_accept, hk, index?_of_lt k.isLt, acceptFields?_taken a lo hi ha h1 h2 h3]
    have hmem : ∀ n : Announcement, n.cls.val ∈ (List.range 1).map (· + (BitVec.ofNat 8 k.val : Octet).toNat) ↔ n.cls = k := by
      intro n
      rw [hk]
      simp [Fin.ext_iff]
    have row : ∀ (l : Link) (t : State), (∀ m n, m ≠ l → (s.link m).ann = some n → n.cls ≠ k) →
        written.reclassify ((List.range 1).map (· + (BitVec.ofNat 8 k.val : Octet).toNat)) l = t → answered t := by
      intro l t hothers ht
      refine (exec_writeTable_accept s hready tag _ a lo hi _ hw).trans ?_
      rw [State.afterWrite_accept, State.reclassify_only written _ l (fun m hm n hn h => hothers m n hm hn ((hmem n).1 h)), ht]
      rfl
    refine ⟨fun hnone => ?_, fun l n hn hcls hothers => ?_⟩
    · refine row .a _ (fun m n _ hn => hnone m n hn) (State.reclassify_self _ _ _ fun n hn _ h => ?_)
      exact absurd ((hmem n).1 h) (hnone .a n hn)
    · intro admitted moved
      subst hcls
      have hadm : admits written.accept n = true ↔ admitted := by
        rw [admits_iff]
        simp [written, admitted]
      have stays : ((s.link l).state = .accepted ∨ (s.link l).state = .rejected →
          (s.link l).state = if admits written.accept n then .accepted else .rejected) → answered written := fun ht =>
        row l written hothers (State.reclassify_self written _ l fun n' hn' hst _ => by
          rw [Option.some.inj (hn'.symm.trans hn)]
          exact ht hst)
      have moves : ∀ t, ((s.link l).state = .accepted ∨ (s.link l).state = .rejected) →
          written.moveLink l (if admits written.accept n then .accepted else .rejected) none = t → answered t :=
        fun t hst ht => row l t hothers ((State.reclassify_moves written _ l n hn hst ((hmem n).2 rfl)).trans ht)
      refine ⟨fun hst h => stays fun _ => ?_, fun hst h => moves _ (.inl hst) ?_, fun hst h => stays fun _ => ?_,
        fun hst h => moves _ (.inr hst) ?_, fun hna hnr => stays fun hst => (hst.elim hna hnr).elim⟩
      · rw [if_pos (hadm.2 h)]
        exact hst
      · rw [if_neg (mt hadm.1 h), State.moveLink_reclassified written l .rejected (fun e => nomatch hst.symm.trans e)
          (.inr ⟨rfl, hst⟩), State.linkMoved_eq]
        rfl
      · rw [if_neg (mt hadm.1 h)]
        exact hst
      · rw [if_pos (hadm.2 h), State.moveLink_reclassified written l .accepted (fun e => nomatch hst.symm.trans e) (.inl rfl),
          State.linkMoved_eq]
        cases l <;> rfl

end Sys2Proof.Machine
end

section
namespace Sys2Proof.Machine

/-! ### The start-up state read part by part -/

theorem State.reset_accept (a : Fin 16) : State.reset.accept[a] = ⟨true, 1, 64⟩ := by simp [State.reset]

theorem State.reset_ingress (w : Fin 16) : State.reset.ingress[w] = ⟨false, 0, 0, 0⟩ := by simp [State.reset]

theorem State.reset_chans (i : Fin 192) : State.reset.chans[i] = Chan.reset := by simp [State.reset]

theorem State.reset_groups (g : Fin 32) : State.reset.groups[g] = Group.reset := by simp [State.reset]

theorem State.reset_buses (b : Fin 64) : State.reset.buses[b] = Bus.reset := by simp [State.reset]

theorem State.reset_cell (r : Fin 256) (c : Fin 64) : State.reset.matrix.cell r c = Xp.off := by
  simp [State.reset, Matrix.reset, Matrix.cell]

theorem State.reset_egress (t : Fin 128) : State.reset.egress[t] = ⟨.off, 3⟩ := by simp [State.reset]

theorem Report.reset_notices (c : Fin 8) : Report.reset.notices[c] = ⟨.none, .onReport⟩ := by simp [Report.reset]

theorem Report.reset_items (c : Fin 8) : Report.reset.items[c] = if c = 7 then 1#128 else 0#128 := by
  revert c
  decide

theorem Report.reset_counters (n : Fin 84) : Report.reset.counters[n] = 0 := by simp [Report.reset]

theorem zeroSamples_getElem (i : Fin 64) : zeroSamples[i] = 0 := by simp [zeroSamples]

/-- Settles O4: each clause is the part of the start-up state that it names. -/
theorem resetValues : Obligations.ResetValues := by
  unfold Obligations.ResetValues
  intro z
  refine ⟨fun l => ?_, rfl, rfl, rfl, rfl, rfl, State.reset_accept, State.reset_ingress, fun i => ?_, fun g => ?_, fun b => ?_,
    State.reset_cell, rfl, rfl, rfl, rfl, State.reset_egress, rfl, rfl, rfl, rfl, rfl, Report.reset_notices,
    Report.reset_items, Report.reset_counters, rfl, rfl, rfl, rfl, rfl, fun h hh => ?_, rfl⟩
  · rw [State.reset_link]
    exact ⟨rfl, rfl, rfl, rfl, zeroSamples_getElem, rfl, rfl⟩
  · rw [State.reset_chans]
    exact ⟨rfl, rfl, rfl, rfl, rfl, rfl, rfl, rfl⟩
  · rw [State.reset_groups]
    exact ⟨rfl, rfl, rfl⟩
  · rw [State.reset_buses]
    exact ⟨rfl, rfl, rfl, rfl, rfl, rfl, rfl, rfl⟩
  · have hreset : h = Held.reset := by
      rcases List.mem_pair.1 hh with e | e <;> exact e
    subst hreset
    exact ⟨rfl, rfl, fun i => ⟨zeroSamples_getElem i, zeroSamples_getElem i⟩⟩

/-! ### The start-up state and the kept properties -/

theorem MatrixOk.reset : MatrixOk State.reset.matrix := by
  refine ⟨Nat.zero_le _, List.Pairwise.nil, ?_, List.Pairwise.nil, ?_, fun h => absurd rfl h, fun r c h => ?_, fun r c _ _ => ?_⟩
  · exact fun e he => absurd he List.not_mem_nil
  · exact fun w hw => absurd hw List.not_mem_nil
  · rw [State.reset_cell] at h
    exact nomatch h
  · rw [State.reset_cell]
    rfl

/-- Every crosspoint of the start-up state is off, so the tier law asks nothing (R82). -/
theorem TierLaw.reset : TierLaw State.reset := by
  intro b c h
  rw [State.reset_cell] at h
  exact nomatch h

theorem CodesOk.reset : CodesOk State.reset := by
  refine ⟨fun r c => ?_, fun e he => absurd he List.not_mem_nil, fun i => ?_, fun g => ?_, fun b => ?_,
    fun e he => absurd he List.not_mem_nil⟩
  · rw [State.reset_cell]
    simp [Xp.off, inGainRange]
  · rw [State.reset_chans]
    simp [Chan.reset, standing, Ramp.within, inGainRange, inMuteRange]
  · rw [State.reset_groups]
    simp [Group.reset, standing, Ramp.within, inGainRange]
  · rw [State.reset_buses]
    simp [Bus.reset, standing, Ramp.within, inGainRange, inMuteRange]

/-- A window that is not enabled covers no channel (R38). -/
theorem Window.covers_of_disabled (w : Window) (i : Nat) (h : w.enabled = false) : w.covers i = false := by
  rw [Window.covers, h, Bool.false_and]

/-- A channel that no window covers is fed by none, and link-muted (R36, R38). -/
theorem feeder_eq_none {g : Vector Window 16} {i : Fin 192} (h : ∀ w : Fin 16, g[w].covers i.val = false) :
    feeder g i = none := by
  rw [feeder, List.find?_eq_none]
  intro w _
  rw [h w]
  exact Bool.false_ne_true

theorem State.reset_covers (w : Fin 16) (i : Nat) : State.reset.ingress[w].covers i = false := by
  rw [State.reset_ingress]
  exact Window.covers_of_disabled _ i rfl

theorem MutesOk.reset : MutesOk State.reset := by
  refine ⟨fun i => ?_, fun b => ?_⟩
  · have hm : linkMuted State.reset.ingress State.reset.links i = true := by
      rw [linkMuted, feeder_eq_none fun w => State.reset_covers w i.val]
    rw [State.reset_chans, hm]
    exact ⟨(if_pos (.inr rfl)).symm, fun _ => rfl⟩
  · rw [State.reset_buses]
    rfl

theorem TablesOk.reset : TablesOk State.reset := by
  refine ⟨fun a => ?_, fun w => ?_, fun v w _ i h => ?_⟩
  · rw [State.reset_accept]
    decide
  · rw [State.reset_ingress]
    decide
  · exact nomatch (State.reset_covers v i.val).symm.trans h.1

theorem NoticeOk.reset : NoticeOk State.reset.report :=
  ⟨by decide, by decide, fun _ => ⟨rfl, rfl⟩, (fun h => nomatch h), (fun n h => nomatch h), fun h => absurd rfl h,
    fun h => absurd rfl h⟩

/-- Settles O60: each property by the part of the start-up state that it speaks of. -/
theorem resetHasEveryKeptProperty : Obligations.ResetHasEveryKeptProperty := by
  refine ⟨MatrixOk.reset, TierLaw.reset, CodesOk.reset, MutesOk.reset, ⟨Nat.zero_le _, List.Pairwise.nil⟩, fun n => ?_,
    TablesOk.reset, ?_, trivial, ⟨Nat.zero_le _, Nat.zero_le _, trivial⟩, ⟨(fun t h => nomatch h), (fun t h => nomatch h)⟩,
    LinksOk.reset.1, LinksOk.reset.2, fun t => ?_, NoticeOk.reset⟩
  · exact (Report.reset_counters n).trans_le (Nat.zero_le _)
  · unfold WindowOk
    decide
  · rw [State.reset_egress]
    trivial

end Sys2Proof.Machine
end

section
namespace Sys2Proof.Machine

/-! ### Numbers in octets (R170) -/

theorem word16_octets16 (w : BitVec 16) : word16 ((octets16 w).getD 0 0) ((octets16 w).getD 1 0) = w := by
  change w.extractLsb' 8 8 ++ w.extractLsb' 0 8 = w
  rw [BitVec.extractLsb'_append_extractLsb'_eq_extractLsb' (by rfl)]
  exact BitVec.extractLsb'_eq_self

theorem word24_octets24 (w : BitVec 24) :
    word24 ((octets24 w).getD 0 0) ((octets24 w).getD 1 0) ((octets24 w).getD 2 0) = w := by
  change w.extractLsb' 16 8 ++ w.extractLsb' 8 8 ++ w.extractLsb' 0 8 = w
  rw [BitVec.extractLsb'_append_extractLsb'_eq_extractLsb' (by rfl), BitVec.extractLsb'_append_extractLsb'_eq_extractLsb' (by rfl)]
  exact BitVec.extractLsb'_eq_self

theorem word32_octets32 (w : BitVec 32) :
    word32 ((octets32 w).getD 0 0) ((octets32 w).getD 1 0) ((octets32 w).getD 2 0) ((octets32 w).getD 3 0) = w := by
  change w.extractLsb' 24 8 ++ w.extractLsb' 16 8 ++ w.extractLsb' 8 8 ++ w.extractLsb' 0 8 = w
  rw [BitVec.extractLsb'_append_extractLsb'_eq_extractLsb' (by rfl), BitVec.extractLsb'_append_extractLsb'_eq_extractLsb' (by rfl),
    BitVec.extractLsb'_append_extractLsb'_eq_extractLsb' (by rfl)]
  exact BitVec.extractLsb'_eq_self

/-- The header octet of the class and the three flags (R170). -/
def headerOctet (cls : BitVec 4) (rolling hold locked : Bool) : Octet :=
  (cls.setWidth 8 <<< 4) ||| (bitOctet rolling <<< 3) ||| (bitOctet hold <<< 2) ||| (bitOctet locked <<< 1)

theorem headerOctet_cls (cls : BitVec 4) (r h k : Bool) : (headerOctet cls r h k).extractLsb' 4 4 = cls := by
  revert cls r h k
  decide

theorem headerOctet_rolling (cls : BitVec 4) (r h k : Bool) : (headerOctet cls r h k).getLsbD 3 = r := by
  revert cls r h k
  decide

/-! ### The parts of a frame's octets, by their places (R170) -/

/-- Runs of four octets laid end to end. -/
theorem getD_flatMap_four {α : Type} (g : α → List Octet) (hg : ∀ x, (g x).length = 4) (l : List α) (i j : Nat)
    (hi : i < l.length) (hj : j < 4) : (l.flatMap g).getD (4 * i + j) 0 = (g l[i]).getD j 0 := by
  induction l generalizing i with
  | nil => exact absurd hi (Nat.not_lt_zero i)
  | cons x rest ih =>
    rw [List.flatMap_cons]
    cases i with
    | zero => rw [List.getD_append _ _ _ _ (by rw [hg]; omega)]; simp
    | succ i =>
      rw [List.getD_append_right _ _ _ _ (by rw [hg]; omega), hg, show 4 * (i + 1) + j - 4 = 4 * i + j by omega]
      exact ih i (by simpa using hi)

theorem length_flatMap_four {α : Type} (g : α → List Octet) (hg : ∀ x, (g x).length = 4) (l : List α) :
    (l.flatMap g).length = 4 * l.length := by
  simp [List.length_flatMap, hg, Nat.mul_comm]

/-- The audio words of a frame (R2, R170). -/
def SentFrame.words (f : SentFrame) : List Octet :=
  (f.samples.toList.take f.slots).flatMap fun x => octets24 (BitVec.ofInt 24 x) ++ [0#8]

/-- The first two words of a frame (R1, R170). -/
def SentFrame.header (f : SentFrame) : List Octet :=
  [0xB4#8, headerOctet f.cls f.rolling f.hold f.locked, BitVec.ofNat 8 f.slots, f.ident] ++ octets32 f.pos

theorem SentFrame.body_eq (f : SentFrame) : f.body = f.header ++ f.words ++ f.lane ++ [f.summary, 0#8] := rfl

section
variable (f : SentFrame)

theorem SentFrame.words_length (h : f.slots ≤ 64) : f.words.length = 4 * f.slots := by
  rw [SentFrame.words, length_flatMap_four _ (fun _ => rfl)]
  simp [h]

theorem SentFrame.header_length : f.header.length = 8 := rfl

theorem SentFrame.body_length (h : f.slots ≤ 64) (hl : f.lane.length = 4) : f.body.length = 4 * f.slots + 14 := by
  simp only [SentFrame.body_eq, List.length_append, f.header_length, f.words_length h, hl, List.length_cons, List.length_nil]
  omega

theorem SentFrame.octets_length (h : f.slots ≤ 64) (hl : f.lane.length = 4) : f.octets.length = 4 * (f.slots + 4) := by
  rw [SentFrame.octets, List.length_append, f.body_length h hl]
  rfl

theorem SentFrame.octets_header (i : Nat) (h : i < 8) : f.octets.getD i 0 = f.header.getD i 0 := by
  rw [SentFrame.octets, SentFrame.body_eq]
  simp only [List.append_assoc]
  exact List.getD_append _ _ _ _ h

theorem SentFrame.octets_words (h : f.slots ≤ 64) (i : Nat) (hi : i < 4 * f.slots) :
    f.octets.getD (8 + i) 0 = f.words.getD i 0 := by
  rw [SentFrame.octets, SentFrame.body_eq]
  simp only [List.append_assoc]
  rw [List.getD_append_right _ _ _ _ (by rw [f.header_length]; omega), f.header_length, Nat.add_sub_cancel_left]
  exact List.getD_append _ _ _ _ (by rwa [f.words_length h])

theorem SentFrame.octets_lane (h : f.slots ≤ 64) (hl : f.lane.length = 4) (i : Nat) (hi : i < 4) :
    f.octets.getD (4 * f.slots + 8 + i) 0 = f.lane.getD i 0 := by
  rw [SentFrame.octets, SentFrame.body_eq, List.append_assoc, List.append_assoc,
    List.getD_append_right _ _ _ _ (by rw [List.length_append, f.header_length, f.words_length h]; omega),
    List.length_append, f.header_length, f.words_length h, show 4 * f.slots + 8 + i - (8 + 4 * f.slots) = i by omega]
  exact List.getD_append _ _ _ _ (by rwa [hl])

theorem SentFrame.octets_check (h : f.slots ≤ 64) (hl : f.lane.length = 4) (i : Nat) :
    f.octets.getD (4 * f.slots + 14 + i) 0 = (octets16 (crc16 f.body)).getD i 0 := by
  rw [SentFrame.octets, List.getD_append_right _ _ _ _ (by rw [f.body_length h hl]; omega), f.body_length h hl,
    Nat.add_sub_cancel_left]

theorem SentFrame.octets_take (h : f.slots ≤ 64) (hl : f.lane.length = 4) : f.octets.take (4 * f.slots + 14) = f.body :=
  List.take_left' (f.body_length h hl)

/-- The slot count is read back (R170). -/
theorem SentFrame.frameSlots_octets (h : f.slots ≤ 64) : frameSlots f.octets = f.slots := by
  rw [frameSlots, f.octets_header 2 (by decide)]
  change (BitVec.ofNat 8 f.slots).toNat % 128 = f.slots
  rw [BitVec.toNat_ofNat]
  omega

/-- A sample of 24 bits is read back (R2). -/
theorem SentFrame.frameSample_octets (h : f.slots ≤ 64) (i : Fin 64) (hi : i.val < f.slots)
    (hr : -8388608 ≤ f.samples[i] ∧ f.samples[i] ≤ 8388607) : frameSample f.octets i.val = f.samples[i] := by
  have hlen : i.val < (f.samples.toList.take f.slots).length := by simp [h]; omega
  have hget : (f.samples.toList.take f.slots)[i.val] = f.samples[i] := by simp
  have word : ∀ j, j < 4 → f.octets.getD (8 + (4 * i.val + j)) 0 =
      (octets24 (BitVec.ofInt 24 f.samples[i]) ++ [0#8]).getD j 0 := fun j hj => by
    rw [f.octets_words h _ (by omega), SentFrame.words, getD_flatMap_four _ (fun _ => rfl) _ _ _ hlen hj, hget]
  have h0 := word 0 (by decide)
  have h1 := word 1 (by decide)
  have h2 := word 2 (by decide)
  rw [frameSample, show 9 + 4 * i.val = 8 + (4 * i.val + 1) by omega, show 10 + 4 * i.val = 8 + (4 * i.val + 2) by omega,
    h1, h2, ← Nat.add_zero (4 * i.val), h0]
  exact (congrArg _ (word24_octets24 _)).trans (BitVec.toInt_ofInt_eq_self (by decide) hr.1 (by omega))

end

/-- A frame as it is laid out passes (R3, R4). -/
theorem SentFrame.framePasses_octets (f : SentFrame) (h1 : 1 ≤ f.slots) (h : f.slots ≤ 64) (hl : f.lane.length = 4) :
    framePasses f.octets = true := by
  have hmark : f.octets.getD 0 0 = 0xB4#8 := f.octets_header 0 (by decide)
  have hcheck : word16 (f.octets.getD (4 * f.slots + 14) 0) (f.octets.getD (4 * f.slots + 15) 0) = crc16 f.body := by
    rw [← word16_octets16 (crc16 f.body), ← f.octets_check h hl, ← f.octets_check h hl]
  simp only [framePasses, f.frameSlots_octets h, hmark, f.octets_length h hl, f.octets_take h hl, hcheck, h1, h, beq_self_eq_true,
    and_self, decide_true, Bool.and_self]

/-- The lane octets are read back (R170). -/
theorem SentFrame.lane_octets (f : SentFrame) (h : f.slots ≤ 64) (hl : f.lane.length = 4) :
    [f.octets.getD (4 * f.slots + 8) 0, f.octets.getD (4 * f.slots + 9) 0, f.octets.getD (4 * f.slots + 10) 0,
      f.octets.getD (4 * f.slots + 11) 0] = f.lane := by
  have h0 := f.octets_lane h hl 0 (by decide)
  have h1 := f.octets_lane h hl 1 (by decide)
  have h2 := f.octets_lane h hl 2 (by decide)
  have h3 := f.octets_lane h hl 3 (by decide)
  obtain ⟨a, b, c, d, e⟩ := List.length_eq_four.1 hl
  rw [e] at h0 h1 h2 h3
  rw [e]
  exact congrArg₂ _ h0 (congrArg₂ _ h1 (congrArg₂ _ h2 (congrArg₂ _ h3 rfl)))

/-- Octets that fail a check of R4 are no frame. -/
theorem parseFrame_eq_none (o : List Octet)
    (h : o.getD 0 0 ≠ 0xB4#8 ∨ frameSlots o = 0 ∨ 64 < frameSlots o ∨ o.length ≠ 4 * (frameSlots o + 4) ∨
      crc16 (o.take (4 * frameSlots o + 14)) ≠
        word16 (o.getD (4 * frameSlots o + 14) 0) (o.getD (4 * frameSlots o + 15) 0)) : parseFrame o = none := by
  refine if_neg fun hp => ?_
  simp only [framePasses, Bool.and_eq_true, beq_iff_eq, decide_eq_true_eq] at hp
  obtain ⟨⟨hmark, hlo, hhi, hlen⟩, hcheck⟩ := hp
  rcases h with h | h | h | h | h
  · exact h hmark
  · omega
  · omega
  · exact h hlen
  · exact h hcheck

/-- Settles O7: octets that fail a check parse as none; those of a laid-out frame are read back place by place. -/
theorem receiverTakesFrameAsSent : Obligations.ReceiverTakesFrameAsSent := by
  refine ⟨fun o => ?_, fun f h1 h hl hr => ?_⟩
  · intro n h
    have hnone : parseFrame o = none := parseFrame_eq_none o h
    refine ⟨hnone, fun l interval takes s => ?_⟩
    rw [exec, execPassingFrame, hnone]
    rfl
  · rw [parseFrame, if_pos (f.framePasses_octets h1 h hl)]
    have hsamples : (Vector.ofFn fun i : Fin 64 => if i.val < f.slots then frameSample f.octets i.val else 0) =
        Vector.ofFn fun i : Fin 64 => if i.val < f.slots then f.samples[i] else 0 := by
      congr 1
      funext i
      split
      · next hi => exact f.frameSample_octets h i hi (hr i)
      · rfl
    have hpos : word32 (f.octets.getD 4 0) (f.octets.getD 5 0) (f.octets.getD 6 0) (f.octets.getD 7 0) = f.pos :=
      word32_octets32 f.pos
    have hcls : (f.octets.getD 1 0).extractLsb' 4 4 = f.cls := headerOctet_cls f.cls f.rolling f.hold f.locked
    have hroll : (f.octets.getD 1 0).getLsbD 3 = f.rolling := headerOctet_rolling f.cls f.rolling f.hold f.locked
    have hident : f.octets.getD 3 0 = f.ident := rfl
    simp only [readFrame, f.frameSlots_octets h, f.lane_octets h hl, hsamples, hpos, hcls, hroll, hident]

end Sys2Proof.Machine
end

section
namespace Sys2Proof.Machine

/-! ### What an engine frame keeps of the report

After its start an engine frame reaches the report by sets of items and by additions to the counters from 16 on (DEFERRED and
those behind it). A property that these keep, the frame keeps. -/

/-- No set of an item and no addition to a counter from `k` on takes the property away. -/
structure Report.Lasts (k : Nat) (P : Report → Prop) : Prop where
  set : ∀ r i, P r → P (r.setItem i)
  add : ∀ (r : Report) (n : Fin 84), k ≤ n.val → P r → P (r.addCount n)

theorem Report.Lasts.mono {k j : Nat} {P : Report → Prop} (h : Report.Lasts k P) (hk : k ≤ j) : Report.Lasts j P :=
  ⟨h.set, fun r n hn => h.add r n (hk.trans hn)⟩

/-- A property that does not speak of the counters lasts when the sets of items keep it. -/
theorem Report.Lasts.of_set {P : Report → Prop} (hs : ∀ r i, P r → P (r.setItem i))
    (hc : ∀ (r : Report) v, P r → P { r with counters := v }) : Report.Lasts 0 P := by
  refine ⟨hs, fun r n _ h => ?_⟩
  unfold Report.addCount
  split
  · exact h
  · dsimp only
    split
    · exact hs _ _ (hc r _ h)
    · exact hc r _ h

section
variable {P : Report → Prop} (hP : Report.Lasts 16 P)
include hP

theorem Report.Lasts.addCounts (r : Report) (n : Fin 84) (hn : 16 ≤ n.val) (k : Nat) (h : P r) : P (r.addCounts n k) := by
  induction k with
  | zero => exact h
  | succ k ih => exact hP.add _ n hn ih

theorem Report.Lasts.writeXp {s : State} (h : P s.report) (r : Fin 256) (c : Fin 64) (t : Int) (n : Fin 8) :
    P (s.writeXp r c t n).report := by
  have joined : P (s.report.afterJoin s.matrix.waiting.isEmpty) := by
    have hcount := hP.add s.report rampsDelayedCount (by decide) h
    unfold Report.afterJoin
    dsimp only
    split
    · exact hP.set _ _ hcount
    · exact hcount
  unfold State.writeXp
  dsimp only
  split
  · exact joined
  · exact h

theorem Report.Lasts.refuseEvent {s : State} (h : P s.report) : P s.refuseEvent.report :=
  hP.set _ _ (hP.add _ _ (by decide) h)

theorem Report.Lasts.punchRequest {s : State} (h : P s.report) (i : Fin 128) (into : Bool) :
    P (s.punchRequest i into).report := by
  unfold State.punchRequest
  dsimp only
  split
  · exact hP.set _ _ h
  · exact h

theorem Report.Lasts.applyMove {s : State} (h : P s.report) (m : Move) : P (s.applyMove m).report := by
  cases m with
  | xpTarget r c code n =>
    unfold State.applyMove
    dsimp only
    split
    · exact hP.writeXp h r c code n
    · exact hP.refuseEvent h
  | punchIn i =>
    unfold State.applyMove
    dsimp only
    split
    · exact hP.punchRequest h i true
    · exact hP.refuseEvent h
  | punchOut i =>
    unfold State.applyMove
    dsimp only
    split
    · exact hP.punchRequest h i false
    · exact hP.refuseEvent h
  | _ => exact h

theorem Report.Lasts.countDeferred {s : State} (h : P s.report) (due : Position) : P (s.countDeferred due).report := by
  unfold State.countDeferred
  split
  · exact hP.set _ _ (hP.add _ _ (by decide) h)
  · exact h

theorem Report.Lasts.applyDue (n : Nat) {s : State} (h : P s.report) : P (State.applyDue n s).report := by
  induction n generalizing s with
  | zero => exact h
  | succ n ih =>
    unfold State.applyDue
    split
    · exact h
    · next e rest _ =>
      split
      · exact h
      · split
        · exact h
        · exact ih (hP.countDeferred (hP.applyMove (s := { s with queue := rest }) h e.move) e.due)

theorem Report.Lasts.judgeLow {s : State} (h : P s.report) (before : Nat) : P (s.judgeLow before).report := by
  unfold State.judgeLow
  dsimp only
  split
  · exact hP.set _ _ h
  · exact h

theorem Report.Lasts.automate {s : State} (h : P s.report) : P s.automate.report := by
  unfold State.automate
  split
  · exact hP.judgeLow (hP.applyDue _ h) _
  · exact h

theorem Report.Lasts.jump {s : State} (h : P s.report) : P s.jump.report :=
  hP.judgeLow (s := s.flush.setItem .jump) (hP.set _ _ (hP.addCounts _ _ (by decide) _ h)) _

theorem Report.Lasts.track {s : State} (h : P s.report) (src : FrameSource) : P (s.track src).report := by
  cases src with
  | passing x p r =>
    unfold State.track
    dsimp only
    split
    · exact h
    · exact hP.jump (s := { s with tracker := ⟨p, r⟩ }) h
  | failed => exact h
  | oscillator => exact h

theorem Report.Lasts.advancePunches {s : State} (h : P s.report) : P s.advancePunches.report := by
  refine State.foldl_touches (P := fun s t => P s.report → P t.report) (fun _ => id) (fun _ _ _ f g => g ∘ f) ?_ _ s h
  intro s i h
  unfold State.advanceSlot
  dsimp only
  split
  · exact hP.set _ _ h
  · exact h

theorem Report.Lasts.noteClips {s : State} (h : P s.report) (v : Vector Bool 64) : P (s.noteClips v).report := by
  refine State.foldl_touches (P := fun s t => P s.report → P t.report) (fun _ => id) (fun _ _ _ f g => g ∘ f) ?_ _ s h
  intro s c h
  unfold State.noteClip
  dsimp only
  split
  · exact hP.add _ _ (by simp [clipCountOf]; omega) (hP.set _ _ h)
  · exact h

theorem Report.Lasts.computeFrame {s : State} (h : P s.report) (src : FrameSource) : P (s.computeFrame src).report := by
  unfold State.computeFrame
  dsimp only
  rw [State.holdResults_report]
  exact hP.noteClips h _

theorem Report.Lasts.visit {s : State} (h : P s.report) (n : Fin 8) (k : Nat) : P (s.visit n k).report := by
  refine State.foldl_touches (P := fun s t => P s.report → P t.report) (fun _ => id) (fun _ _ _ f g => g ∘ f) ?_ _ s h
  intro s j h
  split
  · exact hP.writeXp h _ _ _ _
  · exact h

theorem Report.Lasts.sweepVisits {s : State} (h : P s.report) : P s.sweepVisits.report := by
  unfold State.sweepVisits
  split
  · exact h
  · next n left _ =>
    have hv := hP.visit h n (16384 - left)
    dsimp only
    split
    · exact hP.set _ _ hv
    · exact hv

/-- What lasts at the end of an engine frame's start lasts to its end. -/
theorem Report.Lasts.engineFrame {s : State} (h : P s.frameStart.report) (src : FrameSource) :
    P (s.engineFrame src).report := by
  have hevents : P (s.frameEvents src).report := hP.automate (hP.track h src)
  have hmoves : P (s.frameMoves src).report := hP.advancePunches (s := (s.frameEvents src).advanceRamps) hevents
  exact hP.sweepVisits (hP.computeFrame hmoves src)

end

/-! ### The start of an engine frame in the report -/

/-- The report once the lane words of the frame are taken (R21, R160). -/
def State.afterWords (s : State) : Report :=
  { s.report with laneX := s.report.laneX.after s.responses, laneY := s.report.laneY.after [] }

/-- What the take of link l adds to the counters: a slip and a repeat when its running buffer is dry (R12). -/
def State.countDry (s : State) (l : Link) (r : Report) : Report :=
  if (s.link l).buf.runsDry then (r.addSlip l).addCount (repeatsOf l) else r

theorem State.takeBuffer_link_ne (s : State) {l m : Link} (h : l ≠ m) : (s.takeBuffer l).link m = s.link m :=
  State.setLink_link_ne s _ h

/-- The report at the end of a frame's start: words, composition, timer, takes (R12, R19, R177, R178). -/
theorem State.frameStart_report (s : State) :
    s.frameStart.report =
      s.countDry .d (s.countDry .c (s.countDry .b s.afterWords.composeIfDue.lowerTimer)) := by
  have takeBuffer_report : ∀ (t : State) (l : Link), (t.takeBuffer l).report = t.countDry l t.report := fun _ _ => rfl
  have same : ∀ (t u : State) (l : Link), t.link l = u.link l → t.countDry l = u.countDry l := fun t u l h => by
    funext r
    rw [State.countDry, State.countDry, h]
  unfold State.frameStart State.takeBuffers
  dsimp only
  rw [takeBuffer_report, takeBuffer_report, takeBuffer_report]
  rw [same _ s .d, same _ s .c, same _ s .b]
  · rfl
  · rfl
  · exact State.takeBuffer_link_ne _ (by decide)
  · exact (State.takeBuffer_link_ne _ (by decide)).trans (State.takeBuffer_link_ne _ (by decide))

theorem Report.Lasts.countDry {P : Report → Prop} (hP : Report.Lasts 0 P) (s : State) (l : Link) {r : Report} (h : P r) :
    P (s.countDry l r) := by
  unfold State.countDry
  split
  · refine hP.add _ _ (Nat.zero_le _) ?_
    unfold Report.addSlip
    split
    · exact h
    · exact hP.add _ _ (Nat.zero_le _) h
  · exact h

/-- What holds once the timer is lowered lasts to the end of the frame. -/
theorem Report.Lasts.wholeFrame {P : Report → Prop} (hP : Report.Lasts 0 P) {s : State}
    (h : P s.afterWords.composeIfDue.lowerTimer) (src : FrameSource) : P (s.engineFrame src).report := by
  refine (hP.mono (Nat.zero_le 16)).engineFrame ?_ src
  rw [State.frameStart_report]
  exact hP.countDry s .d (hP.countDry s .c (hP.countDry s .b h))

/-! ### While a notice is in transmission (R161, R178) -/

theorem Report.becomeDue_busy {r : Report} (h : r.noticeBusy = true) : r.becomeDue = { r with timer := none, due := true } :=
  if_pos h

theorem Report.becomeDue_idle {r : Report} (h : r.noticeBusy = false) : r.becomeDue = r.compose :=
  if_neg (fun e : r.noticeBusy = true => nomatch h.symm.trans e)

theorem Report.composeIfDue_busy {r : Report} (h : r.noticeBusy = true) : r.composeIfDue = r := by
  rw [Report.composeIfDue, h, Bool.not_true, Bool.and_false]
  rfl

/-- One more unreported item while a notice is in transmission (R176 to R178). -/
theorem Report.addUnreported_busy (r : Report) (h : r.noticeBusy = true) :
    r.addUnreported.laneX = r.laneX ∧ r.addUnreported.laneY = r.laneY ∧ (r.due = true → r.addUnreported.due = true) ∧
      (r.timer = none → r.unreported ≠ 0 → r.addUnreported.timer = none ∧ r.addUnreported.unreported ≠ 0) := by
  have hn : min 15 (r.unreported + 1) ≠ 0 := by omega
  unfold Report.addUnreported
  dsimp only
  split
  · rw [Report.becomeDue_busy]
    · exact ⟨rfl, rfl, fun _ => rfl, fun _ _ => ⟨rfl, hn⟩⟩
    · exact h
  · refine ⟨rfl, rfl, id, fun ht hu => ⟨?_, hn⟩⟩
    dsimp only
    rw [if_neg (fun e => hu e.1)]
    exact ht

/-- A set of an item while a notice is in transmission leaves the lanes, removes no due mark, and starts no timer behind an
unreported item (R176 to R178). -/
theorem Report.setItem_busy (r : Report) (i : Item) (h : r.noticeBusy = true) :
    (r.setItem i).laneX = r.laneX ∧ (r.setItem i).laneY = r.laneY ∧ (r.due = true → (r.setItem i).due = true) ∧
      (r.timer = none → r.unreported ≠ 0 → (r.setItem i).timer = none ∧ (r.setItem i).unreported ≠ 0) := by
  unfold Report.setItem
  split
  · exact ⟨rfl, rfl, id, fun ht hu => ⟨ht, hu⟩⟩
  · dsimp only
    split
    · exact ⟨rfl, rfl, id, fun ht hu => ⟨ht, hu⟩⟩
    · exact Report.addUnreported_busy { r with items := _ } h

/-- The lanes as they are, a notice being in transmission on them. -/
def Report.Busy (x y : Lane) (r : Report) : Prop := r.noticeBusy = true ∧ r.laneX = x ∧ r.laneY = y

theorem Report.noticeBusy_of_lanes {r q : Report} (hx : q.laneX = r.laneX) (hy : q.laneY = r.laneY) :
    q.noticeBusy = r.noticeBusy := by
  rw [Report.noticeBusy, Report.noticeBusy, hx, hy]

theorem Report.Busy.setItem {x y : Lane} {r : Report} (h : r.Busy x y) (i : Item) : (r.setItem i).Busy x y := by
  obtain ⟨hb, hx, hy⟩ := h
  obtain ⟨ex, ey, _, _⟩ := r.setItem_busy i hb
  exact ⟨(Report.noticeBusy_of_lanes ex ey).trans hb, ex.trans hx, ey.trans hy⟩

theorem Report.Lasts.busy (x y : Lane) : Report.Lasts 0 (Report.Busy x y) :=
  .of_set (fun _ i h => h.setItem i) (fun _ _ h => h)

theorem Report.Lasts.busy_due (x y : Lane) : Report.Lasts 0 (fun r => r.Busy x y ∧ r.due = true) :=
  .of_set (fun r i h => ⟨h.1.setItem i, (r.setItem_busy i h.1.1).2.2.1 h.2⟩) (fun _ _ h => h)

theorem Report.Lasts.busy_untimed (x y : Lane) :
    Report.Lasts 0 (fun r => r.Busy x y ∧ r.timer = none ∧ r.unreported ≠ 0) :=
  .of_set (fun r i h => ⟨h.1.setItem i, (r.setItem_busy i h.1.1).2.2.2 h.2.1 h.2.2⟩) (fun _ _ h => h)

/-- With every class unsteered a set of an item leaves the timer (R176). -/
theorem Report.Lasts.unsteered (n : Nat) :
    Report.Lasts 0 (fun r => (∀ c : Fin 8, r.notices[c].steer = .none) ∧ r.timer = some n) := by
  refine .of_set (fun r i h => ?_) (fun _ _ h => h)
  unfold Report.setItem
  split
  · exact h
  · dsimp only
    rw [if_pos (h.1 _)]
    exact h

/-- The timer's step while a notice is in transmission (R177, R178). -/
theorem Report.lowerTimer_busy {x y : Lane} {r : Report} (h : r.Busy x y) : r.lowerTimer.Busy x y := by
  unfold Report.lowerTimer
  split
  · exact h
  · split
    · rw [Report.becomeDue_busy h.1]
      exact h
    · exact h

/-- Lanes that carry a notice after the frame's words keep what they hold to the end of the frame. -/
theorem State.engineFrame_lanes (s : State) (src : FrameSource) (h : s.afterWords.noticeBusy = true) :
    (s.engineFrame src).report.Busy s.afterWords.laneX s.afterWords.laneY := by
  refine (Report.Lasts.busy _ _).wholeFrame ?_ src
  rw [Report.composeIfDue_busy h]
  exact Report.lowerTimer_busy ⟨h, rfl, rfl⟩

end Sys2Proof.Machine
end

section
namespace Sys2Proof.Machine

/-! ### A notice's payload and its composition written out (R173, R175, R179) -/

theorem bitmapOctets_eq (n : Nat) (b : Bitmap) :
    bitmapOctets n b = (List.range n).map fun j => (b >>> (8 * j)).setWidth 8 := by
  refine List.map_congr_left fun j _ => BitVec.eq_of_toNat_eq ?_
  simp [BitVec.extractLsb', BitVec.toNat_setWidth]

/-- A class is carried on a lane when it is steered to that lane or to both (R175). -/
theorem onX_iff (t : Steering) : onX t = true ↔ t = .x ∨ t = .both := by cases t <;> decide

theorem onY_iff (t : Steering) : onY t = true ↔ t = .y ∨ t = .both := by cases t <;> decide

theorem Report.copyPayload_eq (r : Report) (on : Steering → Bool) (lane : Steering)
    (h : ∀ t, on t = true ↔ t = lane ∨ t = .both) :
    r.copyPayload on = (List.finRange 8).flatMap fun c =>
      if (r.notices[c].steer = lane ∨ r.notices[c].steer = .both) ∧ r.items[c] ≠ 0#128 then
        BitVec.ofNat 8 c.val :: (List.range ([1, 8, 1, 1, 16, 1, 11, 1].getD c.val 0)).map fun j =>
          BitVec.setWidth 8 ((r.items[c] : Bitmap) >>> (8 * j))
      else [] := by
  unfold Report.copyPayload
  congr 1
  funext c
  rw [bitmapOctets_eq, bitmapSize]
  refine if_congr ?_ rfl rfl
  rw [Bool.and_eq_true, h, bne_iff_ne]

/-- The items that a composition leaves of a class (R179). -/
theorem NoticeRec.composed_items (n : NoticeRec) (b : Bitmap) :
    (if n.steer = .none then b else n.reported b) =
      if n.steer ≠ .none ∧ n.mode = .onReport then 0#128 else b := by
  unfold NoticeRec.reported
  by_cases h : n.steer = .none <;> simp [h]

theorem Report.compose_eq (r : Report) :
    r.compose = { r with
      items := Vector.ofFn fun c =>
        if r.notices[c].steer ≠ .none ∧ r.notices[c].mode = .onReport then 0#128 else r.items[c]
      unreported := 0
      timer := none
      due := false
      laneX := { r.laneX with waiting := r.copy onX }
      laneY := { r.laneY with waiting := r.copy onY } } := by
  rw [Report.compose]
  congr 2
  funext c
  exact NoticeRec.composed_items _ _

theorem Report.composeIfDue_composes {r : Report} (h : r.due = true) (hb : r.noticeBusy = false) :
    r.composeIfDue = r.compose := by
  rw [Report.composeIfDue, h, hb]
  rfl

theorem Report.composeIfDue_stays {r : Report} (h : r.due = false ∨ r.noticeBusy = true) : r.composeIfDue = r := by
  rcases h with h | h
  · rw [Report.composeIfDue, h]
    rfl
  · exact Report.composeIfDue_busy h

theorem Report.lowerTimer_none {r : Report} (h : r.timer = none) : r.lowerTimer = r := by
  rw [Report.lowerTimer, h]

theorem Report.lowerTimer_runs {r : Report} {n : Nat} (h : r.timer = some n) (hn : 1 < n) :
    r.lowerTimer = { r with timer := some (n - 1) } := by
  rw [Report.lowerTimer, h]
  exact if_neg (Nat.not_le.2 hn)

theorem Report.lowerTimer_expires {r : Report} {n : Nat} (h : r.timer = some n) (hn : n ≤ 1) :
    r.lowerTimer = r.becomeDue := by
  rw [Report.lowerTimer, h]
  exact if_pos hn

/-- What a lane is left with after its word (R160, R161). -/
theorem Lane.after_eq (lane : Lane) (responses : List Message) :
    lane.after responses =
      let rest := fun (traffic : Traffic) (octets : List Octet) =>
        if octets.length ≤ 4 then none else some (⟨traffic, octets.drop 4⟩ : Tx)
      match lane.tx, lane.waiting, responses with
      | some m, waiting, _ => (⟨waiting, rest m.traffic m.rest⟩ : Lane)
      | none, some copy, _ => ⟨none, rest .notice copy⟩
      | none, none, m :: _ => ⟨none, rest .response m.octets⟩
      | none, none, [] => ⟨none, none⟩ := by
  obtain ⟨waiting, tx⟩ := lane
  cases tx with
  | some m => rfl
  | none =>
    cases waiting with
    | some copy => rfl
    | none => cases responses <;> rfl

/-- The counts of a take that finds a running buffer empty (R12). -/
theorem State.countDry_eq (s : State) (l : Link) (slips : Fin 84) (h : slipsOf l = some slips) (r : Report) :
    s.countDry l r =
      if (s.link l).buf.state = .running ∧ (s.link l).buf.frames = [] then (r.addCount slips).addCount (repeatsOf l) else r := by
  unfold State.countDry Report.addSlip
  rw [h]
  refine if_congr ?_ rfl rfl
  simp [Elastic.runsDry]

/-- A copy composed on either lane is a notice in transmission (R161). -/
theorem Report.compose_busy {r : Report} (h : r.copy onX ≠ none ∨ r.copy onY ≠ none) : r.compose.noticeBusy = true := by
  have waits : ∀ l : Lane, l.waiting ≠ none → l.hasNotice = true := fun l hl => by
    rw [Lane.hasNotice, Option.isSome_iff_ne_none.2 hl, Bool.true_or]
  rw [Report.noticeBusy]
  rcases h with h | h
  · rw [waits r.compose.laneX h, Bool.true_or]
  · rw [waits r.compose.laneY h, Bool.or_true]

/-- A notice due, or made so by the timer's last frame, is composed at the start of a frame whose words leave none in
transmission. -/
theorem Report.composed_at_start {q : Report} (hb : q.noticeBusy = false) (h : q.due = true ∨ q.timer = some 1) :
    q.composeIfDue.lowerTimer = q.compose := by
  by_cases hd : q.due = true
  · rw [Report.composeIfDue_composes hd hb, Report.lowerTimer_none rfl]
  · have hd' : q.due = false := Bool.eq_false_iff.2 hd
    rw [Report.composeIfDue_stays (.inl hd'), Report.lowerTimer_expires (h.resolve_left hd) le_rfl,
      Report.becomeDue_idle hb]

/-- The same behind a notice in transmission: the due mark stands. -/
theorem Report.due_at_start {q : Report} (hb : q.noticeBusy = true) (h : q.due = true ∨ q.timer = some 1) :
    q.composeIfDue.lowerTimer.due = true := by
  rw [Report.composeIfDue_busy hb]
  unfold Report.lowerTimer
  split
  · next ht => exact h.resolve_right (fun e => nomatch ht.symm.trans e)
  · next n ht =>
    split
    · rw [Report.becomeDue_busy hb]
    · next hn =>
      refine h.resolve_right fun e => hn ?_
      rw [Option.some.inj (ht.symm.trans e)]

theorem exec_timerExpiry_expires {s : State} {n : Nat} (h : s.report.timer = some n) (hn : n ≤ 1) :
    exec .coalescingTimerExpiry s = .next { s with report := s.report.becomeDue } := by
  simp only [exec, execCoalescingTimerExpiry, h, if_pos hn, Report.lowerTimer_expires h hn]

theorem exec_timerExpiry_stays {s : State} (h : ∀ n, s.report.timer = some n → 1 < n) :
    exec .coalescingTimerExpiry s = .next s := by
  cases ht : s.report.timer with
  | none => simp only [exec, execCoalescingTimerExpiry, ht]
  | some n => simp only [exec, execCoalescingTimerExpiry, ht, if_neg (Nat.not_le.2 (h n ht))]

/-- Settles O43: the rows and the frame's start by the equations of composition and timer; the rest of the frame by what
lasts through it. -/
theorem noticeDueAndComposed : Obligations.NoticeDueAndComposed := by
  intro s size copy composed due r row
  have hcopyX : ∀ q : Report, copy q .x = q.copy onX := fun q => by
    rw [Report.copy, Report.copyPayload_eq q onX .x onX_iff]
  have hcopyY : ∀ q : Report, copy q .y = q.copy onY := fun q => by
    rw [Report.copy, Report.copyPayload_eq q onY .y onY_iff]
  have hcomposed : ∀ q : Report, composed q = q.compose := fun q => by
    rw [Report.compose_eq, ← hcopyX, ← hcopyY]
  have hdue : ∀ q : Report, due q = q.becomeDue := fun q => by
    have : due q = if q.noticeBusy = true then { q with timer := none, due := true } else composed q := rfl
    rw [this, hcomposed]
    rfl
  refine ⟨fun hd hb => ?_, fun h => ?_, fun n ht hn => ?_, fun h => ?_, ?_⟩
  · have he : exec .noticeComposition s = .next { s with report := r.composeIfDue } := rfl
    change exec .noticeComposition s = .next { s with report := composed r }
    rw [he, Report.composeIfDue_composes hd hb, hcomposed]
  · have he : exec .noticeComposition s = .next { s with report := r.composeIfDue } := rfl
    change exec .noticeComposition s = .next { s with report := r }
    rw [he, Report.composeIfDue_stays h]
  · change exec .coalescingTimerExpiry s = .next { s with report := due r }
    rw [exec_timerExpiry_expires ht hn, hdue]
  · refine exec_timerExpiry_stays fun n hn => ?_
    rcases h with h | ⟨m, hm, hlt⟩
    · exact nomatch h.symm.trans hn
    · rwa [← Option.some.inj (hm.symm.trans hn)]
  · intro sent words ended timed start
    have hsent : ∀ lane responses, sent lane responses = lane.after responses := fun _ _ => (Lane.after_eq _ _).symm
    have hwords : words = s.afterWords := by
      rw [State.afterWords, ← hsent, ← hsent]
    have hended : ended = s.afterWords.composeIfDue := by
      rw [← hwords, Report.composeIfDue, ← hcomposed]
      refine if_congr ?_ rfl rfl
      rw [Bool.and_eq_true, Bool.not_eq_true']
    have htimed : timed = s.afterWords.composeIfDue.lowerTimer := by
      rw [← hended]
      cases ht : ended.timer with
      | none => simp only [timed, ht, Report.lowerTimer_none ht]
      | some n =>
        by_cases hn : 1 < n
        · simp only [timed, ht, if_pos hn, Report.lowerTimer_runs ht hn]
        · simp only [timed, ht, if_neg hn, Report.lowerTimer_expires ht (Nat.not_lt.1 hn), hdue]
    have hstart : s.frameStart.report = start := by
      rw [State.frameStart_report, ← htimed, State.countDry_eq s .b 4 rfl, State.countDry_eq s .c 7 rfl,
        State.countDry_eq s .d 10 rfl]
      rfl
    refine ⟨hstart, fun src => ?_⟩
    intro t
    rw [hwords, hcopyX, hcopyY]
    refine ⟨fun n ht hn hd hsteer => ?_, fun hb h hcopy => ?_, fun hb h => ?_, fun hb ht hu => ?_⟩
    · refine ((Report.Lasts.unsteered (n - 1)).wholeFrame ?_ src).2
      rw [Report.composeIfDue_stays (r := s.afterWords) (.inl hd), Report.lowerTimer_runs (r := s.afterWords) ht hn]
      exact ⟨hsteer, rfl⟩
    · have hbusy : Report.Busy s.afterWords.compose.laneX s.afterWords.compose.laneY t.report := by
        refine (Report.Lasts.busy _ _).wholeFrame ?_ src
        rw [Report.composed_at_start hb h]
        exact ⟨Report.compose_busy hcopy, rfl, rfl⟩
      exact ⟨congrArg Lane.waiting hbusy.2.1, congrArg Lane.waiting hbusy.2.2⟩
    · refine ((Report.Lasts.busy_due s.afterWords.laneX s.afterWords.laneY).wholeFrame ⟨?_, Report.due_at_start hb h⟩ src).2
      rw [Report.composeIfDue_busy hb]
      exact Report.lowerTimer_busy ⟨hb, rfl, rfl⟩
    · refine ((Report.Lasts.busy_untimed s.afterWords.laneX s.afterWords.laneY).wholeFrame ?_ src).2.1
      rw [Report.composeIfDue_busy hb, Report.lowerTimer_expires (r := s.afterWords) ht le_rfl, Report.becomeDue_busy hb]
      exact ⟨⟨hb, rfl, rfl⟩, rfl, hu⟩

end Sys2Proof.Machine
end

section
namespace Sys2Proof.Machine

/-! ### Position and rolling flag (R132) -/

theorem State.track_tracker (s : State) (src : FrameSource) :
    (s.track src).tracker = match src with
      | .passing _ p r => ⟨p, r⟩
      | .failed => if s.tracker.rolling then ⟨s.tracker.pos + 1, true⟩ else s.tracker
      | .oscillator => ⟨s.tracker.pos, false⟩ := by
  cases src with
  | passing x p r =>
    unfold State.track
    dsimp only
    split <;> rfl
  | failed =>
    change s.tracker.carried = _
    unfold Tracker.carried
    split
    · next h => rw [h]
    · rfl
  | oscillator => rfl

/-! ### The frames sent (R19, R170) -/

/-- A bit of the summary octet says whether its class holds a set item (R170, R174). -/
theorem Report.summary_getLsbD (r : Report) (c : Fin 8) : r.summary.getLsbD c.val = decide (r.items[c] ≠ 0#128) := by
  have one : ∀ x y : Fin 8, (1#8 <<< x.val).getLsbD y.val = decide (y = x) := by decide
  have fold : ∀ (l : List (Fin 8)) (o : Octet),
      (l.foldl (fun o c => if r.items[c] = 0#128 then o else o ||| (1#8 <<< c.val)) o).getLsbD c.val =
        (o.getLsbD c.val || decide (c ∈ l ∧ r.items[c] ≠ 0#128)) := by
    intro l
    induction l with
    | nil => simp
    | cons x rest ih =>
      intro o
      have bit : (if r.items[x] = 0#128 then o else o ||| (1#8 <<< x.val)).getLsbD c.val =
          (o.getLsbD c.val || decide (c = x ∧ r.items[c] ≠ 0#128)) := by
        by_cases h0 : r.items[x] = 0#128
        · rw [if_pos h0, decide_eq_false (fun e => e.2 (e.1 ▸ h0)), Bool.or_false]
        · rw [if_neg h0, BitVec.getLsbD_or, one]
          congr 1
          exact decide_eq_decide.2 ⟨fun e => ⟨e, e ▸ h0⟩, And.left⟩
      rw [List.foldl_cons, ih, bit, Bool.or_assoc, ← Bool.decide_or]
      congr 1
      refine decide_eq_decide.2 ?_
      rw [List.mem_cons]
      tauto
  rw [Report.summary, fold]
  simp

/-! ### The lanes (R159, R160, R161) -/

/-- The lane word that a composition takes (R21, R160). -/
theorem laneWord_eq (lane : Lane) (responses : List Message) :
    laneWord (lane.current responses) =
      ((match lane.tx, lane.waiting, responses with
        | some m, _, _ => m.rest
        | none, some copy, _ => copy
        | none, none, m :: _ => m.octets
        | none, none, [] => []) ++ [0#8, 0#8, 0#8, 0#8]).take 4 := by
  obtain ⟨waiting, tx⟩ := lane
  cases tx with
  | some m => rfl
  | none =>
    cases waiting with
    | some copy => rfl
    | none => cases responses <;> rfl

/-- A word that ends a response is of one begun before: no message is of four octets or fewer (R153, R159). -/
theorem Lane.endsResponse_iff (lane : Lane) (responses : List Message) :
    lane.endsResponse responses = true ↔ ∃ rest, lane.tx = some ⟨.response, rest⟩ ∧ rest.length ≤ 4 := by
  obtain ⟨waiting, tx⟩ := lane
  cases tx with
  | some m =>
    obtain ⟨traffic, rest⟩ := m
    simp [Lane.endsResponse, Lane.current]
  | none =>
    cases waiting with
    | some copy => simp [Lane.endsResponse, Lane.current]
    | none =>
      cases responses with
      | nil => simp [Lane.endsResponse, Lane.current]
      | cons m rest =>
        have : ¬m.octets.length ≤ 4 := by rw [Sys2Proof.Laws.message_length]; omega
        simp [Lane.endsResponse, Lane.current, this]

/-- The messages in transmission last through a frame once its words are taken (R160). -/
theorem Report.Lasts.transmissions (x y : Option Tx) :
    Report.Lasts 0 (fun r => r.laneX.tx = x ∧ r.laneY.tx = y) := by
  refine ⟨fun r i h => ?_, fun r n _ h => ?_⟩
  · rwa [Report.setItem_txX, Report.setItem_txY]
  · obtain ⟨_, _, hx, hy⟩ := r.addCount_same n
    rwa [hx, hy]

theorem State.engineFrame_transmissions (s : State) (src : FrameSource) :
    (s.engineFrame src).report.laneX.tx = (s.report.laneX.after s.responses).tx ∧
      (s.engineFrame src).report.laneY.tx = (s.report.laneY.after []).tx := by
  refine (Report.Lasts.transmissions _ _).wholeFrame ?_ src
  obtain ⟨_, _, hx, hy⟩ := (Report.lowerTimer_same s.afterWords.composeIfDue).1
  obtain ⟨_, _, kx, ky⟩ := (Report.composeIfDue_same s.afterWords).1
  rw [hx, hy, kx, ky]
  exact ⟨rfl, rfl⟩

/-- What is left of a message in transmission after four more octets of it (R160). -/
def txLeft (traffic : Traffic) (octets : List Octet) : Option Tx :=
  if octets.length ≤ 4 then none else some ⟨traffic, octets.drop 4⟩

theorem Lane.after_tx (lane : Lane) (responses : List Message) :
    (lane.after responses).tx = match lane.tx, lane.waiting, responses with
      | some m, _, _ => txLeft m.traffic m.rest
      | none, some copy, _ => txLeft .notice copy
      | none, none, m :: _ => txLeft .response m.octets
      | none, none, [] => none := by
  obtain ⟨waiting, tx⟩ := lane
  cases tx with
  | some m => rfl
  | none =>
    cases waiting with
    | some copy => rfl
    | none => cases responses <;> rfl

/-- A copy that waits behind a message still waits; one that begins no longer does, and more of it is to come (R161). -/
theorem Lane.after_waiting (lane : Lane) (responses : List Message) (copy : List Octet) (h : lane.waiting = some copy) :
    (lane.tx ≠ none → (lane.after responses).waiting = some copy ∧ (lane.after responses).hasNotice = true) ∧
      (lane.tx = none → 4 < copy.length →
        (lane.after responses).waiting = none ∧ (lane.after responses).hasNotice = true) := by
  obtain ⟨waiting, tx⟩ := lane
  obtain rfl : waiting = some copy := h
  cases tx with
  | some m => exact ⟨fun _ => ⟨rfl, rfl⟩, fun e => nomatch e⟩
  | none =>
    refine ⟨fun e => absurd rfl e, fun _ hlen => ⟨rfl, ?_⟩⟩
    simp [Lane.hasNotice, Lane.after, Lane.current, Nat.not_le.2 hlen]

/-! ### The takes (R12) -/

theorem Elastic.take_eq (b : Elastic) :
    b.take = match b.state, b.frames with
      | .running, .received x :: rest => ⟨.running, rest, x⟩
      | .running, .repeated x :: rest => ⟨.running, rest, x⟩
      | .running, [] => b
      | state, frames => ⟨state, frames, zeroSamples⟩ := by
  obtain ⟨state, frames, supplied⟩ := b
  cases state with
  | idle => rfl
  | priming => rfl
  | running =>
    cases frames with
    | nil => rfl
    | cons f rest => cases f <;> rfl

theorem State.frameStart_link (s : State) (l : Link) :
    s.frameStart.link l = if l = .a then s.link .a else { s.link l with buf := (s.link l).buf.take } := by
  have taken : ∀ (t : State) (l : Link), (t.takeBuffer l).link l = { t.link l with buf := (t.link l).buf.take } :=
    fun t l => State.setLink_link t l _
  unfold State.frameStart State.takeBuffers
  dsimp only
  cases l with
  | a =>
    rw [State.takeBuffer_link_ne _ (by decide), State.takeBuffer_link_ne _ (by decide), State.takeBuffer_link_ne _ (by decide)]
    rfl
  | b =>
    rw [State.takeBuffer_link_ne _ (by decide), State.takeBuffer_link_ne _ (by decide), taken]
    rfl
  | c =>
    rw [State.takeBuffer_link_ne _ (by decide), taken, State.takeBuffer_link_ne _ (by decide)]
    rfl
  | d =>
    rw [taken, State.takeBuffer_link_ne _ (by decide), State.takeBuffer_link_ne _ (by decide)]
    rfl

theorem State.engineFrame_link (s : State) (src : FrameSource) (l : Link) :
    (s.engineFrame src).link l = if l = .a then s.link .a else { s.link l with buf := (s.link l).buf.take } := by
  rw [← State.frameStart_link, State.link, State.link, (State.engineFrame_of_start s src).1]

/-- One addition, seen at any counter (R183). -/
theorem Report.addCount_get (r : Report) (n m : Fin 84) (h : r.counters[m] ≤ 65535) :
    (r.addCount n).counters[m] = min 65535 (r.counters[m] + if m = n then 1 else 0) := by
  rw [Report.addCount_counters]
  by_cases hmn : m = n
  · subst hmn
    rw [if_pos rfl]
    split
    · omega
    · rw [Fin.getElem_fin, Vector.getElem_set_self]
      omega
  · have hv : n.val ≠ m.val := fun e => hmn (Fin.ext e.symm)
    rw [if_neg hmn]
    split
    · omega
    · rw [Fin.getElem_fin, Vector.getElem_set_ne _ _ hv, ← Fin.getElem_fin]
      omega

/-- One when the take of link l finds a running buffer empty (R12). -/
def State.dry (s : State) (l : Link) : Nat :=
  if (s.link l).buf.state = .running ∧ (s.link l).buf.frames = [] then 1 else 0

theorem State.countDry_get (s : State) (l : Link) (slips : Fin 84) (hl : slipsOf l = some slips) (hne : slips ≠ repeatsOf l)
    (r : Report) (n : Fin 84) (h : r.counters[n] ≤ 65535) :
    (s.countDry l r).counters[n] =
      min 65535 (r.counters[n] + if n = slips ∨ n = repeatsOf l then s.dry l else 0) := by
  rw [State.countDry_eq s l slips hl, State.dry]
  split
  · have h1 := r.addCount_get slips n h
    have h2 := (r.addCount slips).addCount_get (repeatsOf l) n (by omega)
    rw [h2, h1]
    by_cases hs : n = slips
    · simp only [hs, hne, if_true, if_false, true_or]
      omega
    · by_cases hr : n = repeatsOf l
      · simp only [hr, if_true, if_false, or_true, hne.symm]
        omega
      · simp only [hs, hr, if_false, or_self]
        omega
  · split <;> omega

/-- The counters below DEFERRED last from a frame's start to its end. -/
theorem Report.Lasts.counter (n : Fin 84) (hn : n.val < 16) (v : Nat) : Report.Lasts 16 (fun r => r.counters[n] = v) := by
  refine ⟨fun r i h => by rwa [Report.setItem_counters], fun r m hm h => ?_⟩
  rw [Report.addCount_counters]
  split
  · exact h
  · rwa [Fin.getElem_fin, Vector.getElem_set_ne _ _ (by omega), ← Fin.getElem_fin]

/-- The counters of slips and repeats at the end of a frame (R12, R183). -/
theorem State.engineFrame_counter (s : State) (src : FrameSource) (n : Fin 84) (hn : n.val < 16)
    (h : s.report.counters[n] ≤ 65535) :
    (s.engineFrame src).report.counters[n] = min 65535 (s.report.counters[n] +
      ((if n = 4 ∨ n = 3 then s.dry .b else 0) + (if n = 7 ∨ n = 6 then s.dry .c else 0) +
        if n = 10 ∨ n = 9 then s.dry .d else 0)) := by
  refine (Report.Lasts.counter n hn _).engineFrame ?_ src
  have hbegin : s.afterWords.composeIfDue.lowerTimer.counters = s.report.counters := by
    rw [(Report.lowerTimer_same _).2, (Report.composeIfDue_same _).2]
    rfl
  rw [State.frameStart_report]
  generalize s.afterWords.composeIfDue.lowerTimer = r at hbegin
  have hb := s.countDry_get .b 4 rfl (by decide) r n (by rw [hbegin]; exact h)
  have hc := s.countDry_get .c 7 rfl (by decide) (s.countDry .b r) n (by omega)
  have hd := s.countDry_get .d 10 rfl (by decide) (s.countDry .c (s.countDry .b r)) n (by omega)
  rw [hd, hc, hb, hbegin]
  change min 65535 (min 65535 (min 65535 (_ + if n = 4 ∨ n = 3 then _ else _) + if n = 7 ∨ n = 6 then _ else _) +
    if n = 10 ∨ n = 9 then _ else _) = _
  omega

/-! ### Samples (R8, R39, R46, R117 to R121) -/

theorem polarise_eq (p : Polarity) (x : Int) :
    polarise p x = if p = .inverted then clampInt (-8388608) 8388607 (-x) else x := by
  cases p <;> rfl

theorem State.channelSamples_eq (m : State) (src : FrameSource) : m.channelSamples src =
    Vector.ofFn fun i => if m.chans[i].polarity = .inverted then clampInt (-8388608) 8388607 (-m.rawSample src i)
      else m.rawSample src i :=
  congrArg Vector.ofFn (funext fun _ => polarise_eq _ _)

/-- A channel is fed by the one enabled window that covers it (R38, R39). -/
theorem feeder_eq_some {g : Vector Window 16} {i : Fin 192} {w : Fin 16} (h : g[w].covers i.val = true)
    (hu : ∀ v : Fin 16, v ≠ w → g[v].covers i.val = false) : feeder g i = some w := by
  cases hf : feeder g i with
  | none =>
    rw [feeder, List.find?_eq_none] at hf
    exact absurd h (hf w (List.mem_finRange w))
  | some v =>
    have hv := List.find?_some hf
    by_contra hne
    exact nomatch (hu v fun e => hne (congrArg some e)).symm.trans hv

/-- The samples that the link of number k supplies (R8, R12). -/
theorem State.supply_eq (m : State) (src : FrameSource) (k : Fin 4) :
    m.supply src k =
      if k.val = 0 then (match src with | .passing x _ _ => x | .failed => (m.link .a).lastGood | .oscillator => zeroSamples)
      else if k.val = 1 then (m.link .b).buf.supplied else if k.val = 2 then (m.link .c).buf.supplied
      else (m.link .d).buf.supplied :=
  match k with
  | 0 => by cases src <;> rfl
  | 1 => rfl
  | 2 => rfl
  | 3 => rfl

end Sys2Proof.Machine
end

section
namespace Sys2Proof.Machine

/-! ### The whole frame, its lanes, ramps and outputs -/

/-- The lane of a frame's end, `after`, by the lane of its beginning (R160, R161). -/
theorem State.lane_after_frame (s : State) (src : FrameSource) (before after : Lane) (responses : List Message)
    (h : (before, after, responses) ∈ [(s.report.laneX, (s.engineFrame src).report.laneX, s.responses),
      (s.report.laneY, (s.engineFrame src).report.laneY, [])]) :
    after.tx = (before.after responses).tx ∧
      ((before.after responses).hasNotice = true → after = before.after responses) := by
  obtain ⟨hx, hy⟩ := s.engineFrame_transmissions src
  rcases List.mem_pair.1 h with e | e
  · obtain ⟨rfl, rfl, rfl⟩ : before = s.report.laneX ∧ after = (s.engineFrame src).report.laneX ∧ responses = s.responses := by
      simpa using e
    refine ⟨hx, fun hn => ?_⟩
    have hbusy : s.afterWords.noticeBusy = true := by
      rw [Report.noticeBusy]
      exact Bool.or_eq_true_iff.2 (.inl hn)
    exact (s.engineFrame_lanes src hbusy).2.1
  · obtain ⟨rfl, rfl, rfl⟩ : before = s.report.laneY ∧ after = (s.engineFrame src).report.laneY ∧ responses = [] := by
      simpa using e
    refine ⟨hy, fun hn => ?_⟩
    have hbusy : s.afterWords.noticeBusy = true := by
      rw [Report.noticeBusy]
      exact Bool.or_eq_true_iff.2 (.inr hn)
    exact (s.engineFrame_lanes src hbusy).2.2

/-- R118, R119, R121: the output of a slot, by what it carries. -/
theorem State.slotOut_ofFn (m : State) (raw sample : Fin 192 → Int) (ys : Vector Int 64) (t : Slot) :
    m.slotOut (Vector.ofFn raw) (Vector.ofFn sample) ys t = match t.use with
      | .off => 0
      | .bus b => ys[b]
      | .direct i => clampInt (-8388608) 8388607 ((sample i * (multiplier (m.directCodes i) : Int) + 32768) / 65536)
      | .punch b p state k =>
        let len : Int := rampLen t.cls
        if len = 0 then (if state = .live then ys[b] else raw p)
        else (2 * (ys[b] * (k : Int) + raw p * (len - (k : Int))) + len) / (2 * len) := by
  obtain ⟨use, cls⟩ := t
  cases use with
  | direct i =>
    have h : (Vector.ofFn sample)[i] = sample i := by simp
    dsimp only
    rw [← h]
    rfl
  | punch b p state k =>
    have h : (Vector.ofFn raw)[p] = raw p := by simp
    dsimp only
    rw [← h]
    exact if_congr Int.natCast_eq_zero.symm rfl rfl
  | _ => rfl

theorem State.resultSamples_get (m : State) (src : FrameSource) (base : Nat) (h : base ≤ 64) (j : Fin 64) :
    (m.resultSamples src base h)[j] = m.slotOut (Vector.ofFn (m.rawSample src)) (m.channelSamples src)
      (m.computeBuses (m.channelSamples src)).out m.egress[base + j.val] := by
  simp [State.resultSamples, State.outputs]

/-- Sums and sweep hold the results behind the newer of those held (section 1.5), and leave channels, groups and egress map. -/
theorem State.computed_parts (m : State) (src : FrameSource) :
    (m.computeFrame src).sweepVisits.heldOld = m.heldNew ∧
      (m.computeFrame src).sweepVisits.heldNew = ⟨(m.computeFrame src).sweepVisits.tracker.pos,
        (m.computeFrame src).sweepVisits.tracker.rolling, m.resultSamples src 0 (by omega), m.resultSamples src 64 (by omega)⟩ ∧
      (m.computeFrame src).sweepVisits.chans = m.chans ∧ (m.computeFrame src).sweepVisits.groups = m.groups ∧
      (m.computeFrame src).sweepVisits.egress = m.egress ∧ (m.computeFrame src).sweepVisits.links = m.links ∧
      ∀ b : Fin 64, (m.computeFrame src).sweepVisits.buses[b] =
        { m.buses[b] with clipping := (m.computeFrame src).sweepVisits.buses[b].clipping } := by
  obtain ⟨_, _, _, _, h, hclip⟩ := State.computeFrame_sweepVisits m src
  rw [h]
  exact ⟨rfl, rfl, rfl, rfl, rfl, rfl, hclip⟩

theorem State.frameMoves_heldNew (s : State) (src : FrameSource) : (s.frameMoves src).heldNew = s.heldNew := by
  obtain ⟨_, _, _, _, _, _, _, _, _, _, _, h⟩ := State.frameMoves_touches s src
  rw [h]

theorem State.frameMoves_ingress (s : State) (src : FrameSource) : (s.frameMoves src).ingress = s.ingress := by
  obtain ⟨_, _, _, _, _, _, _, _, _, _, _, h⟩ := State.frameMoves_touches s src
  rw [h]

/-- The ramp advance in a frame's moves (R53, R65). -/
theorem State.frameMoves_ramps (s : State) (src : FrameSource) :
    (∀ i : Fin 192, (s.frameMoves src).chans[i] = (s.frameEvents src).chans[i].advance) ∧
      (∀ g : Fin 32, (s.frameMoves src).groups[g] = (s.frameEvents src).groups[g].advance) ∧
      ∀ b : Fin 64, (s.frameMoves src).buses[b] = (s.frameEvents src).buses[b].advance := by
  unfold State.frameMoves
  generalize s.frameEvents src = u
  obtain ⟨_, _, h⟩ := State.advancePunches_touches u.advanceRamps
  rw [h]
  exact ⟨fun i => mapAll_getElem _ _ _ _, fun g => mapAll_getElem _ _ _ _, fun b => mapAll_getElem _ _ _ _⟩

/-- What no engine frame reaches. -/
theorem State.engineFrame_leaves (s : State) (src : FrameSource) :
    (s.engineFrame src).clock = s.clock ∧ (s.engineFrame src).accept = s.accept ∧ (s.engineFrame src).ingress = s.ingress ∧
      (s.engineFrame src).window = s.window ∧ (s.engineFrame src).framer = s.framer ∧
      (s.engineFrame src).commands = s.commands ∧ (s.engineFrame src).pending = s.pending := by
  obtain ⟨_, _, _, _, _, _, _, _, _, _, _, _, _, _, h⟩ := State.engineFrame_touches s src
  rw [h]
  exact ⟨rfl, rfl, rfl, rfl, rfl, rfl, rfl⟩

/-- The counters of links B, C and D that a take finding a running buffer empty adds to (R12). -/
theorem State.engineFrame_dry (s : State) (src : FrameSource) (l : Link) (slips repeats : Fin 84)
    (hmem : (l, slips, repeats) ∈ [(Link.b, (4 : Fin 84), (3 : Fin 84)), (.c, 7, 6), (.d, 10, 9)]) (n : Fin 84)
    (hn : n ∈ [slips, repeats]) (h : s.report.counters[n] ≤ 65535) :
    (s.engineFrame src).report.counters[n] = min 65535 (s.report.counters[n] + s.dry l) := by
  simp only [List.mem_cons, Prod.mk.injEq, List.not_mem_nil, or_false] at hmem hn
  have hlt : n.val < 16 := by
    rcases hmem with ⟨_, rfl, rfl⟩ | ⟨_, rfl, rfl⟩ | ⟨_, rfl, rfl⟩ <;> rcases hn with rfl | rfl <;> decide
  rw [s.engineFrame_counter src n hlt h]
  rcases hmem with ⟨rfl, rfl, rfl⟩ | ⟨rfl, rfl, rfl⟩ | ⟨rfl, rfl, rfl⟩ <;> rcases hn with rfl | rfl <;> simp

/-- Settles O47: each part of the frame by the operation that makes it, all others leaving it. -/
theorem engineFrameEffects : Obligations.EngineFrameEffects := by
  intro s src t u m word
  obtain ⟨_, hresp, hsent⟩ := State.engineFrame_of_start s src
  obtain ⟨hold, hnew, hchans, hgroups, hegress, hlinks, hbuses⟩ := State.computed_parts m src
  have ht : t = (m.computeFrame src).sweepVisits := rfl
  rw [← ht] at hold hnew hchans hgroups hegress hlinks hbuses
  obtain ⟨hrampC, hrampG, hrampB⟩ := State.frameMoves_ramps s src
  obtain ⟨hclock, haccept, hingress, hwindow, hframer, hcommands, hpending⟩ := State.engineFrame_leaves s src
  have hresp' : t.responses = if s.report.laneX.endsResponse s.responses then s.responses.drop 1 else s.responses := hresp
  refine ⟨?_, hold.trans (s.frameMoves_heldNew src), congrArg Held.pos hnew, congrArg Held.rolling hnew, ?_, fun h => ?_,
    fun h => ?_, ?_, hclock, haccept, hingress, hwindow, hframer, hcommands, hpending, State.engineFrame_link s src .a,
    fun l hl => ?_, ?_, ⟨fun i => ?_, fun g => ?_, fun b => ?_⟩, ?_⟩
  · exact (State.engineFrame_tracker s src).trans (State.track_tracker _ src)
  · refine ⟨_, hsent, fun q hq => ?_, rfl, rfl, rfl, rfl, laneWord_eq _ _, laneWord_eq _ _⟩
    rcases List.mem_pair.1 hq with rfl | rfl <;>
      exact ⟨rfl, rfl, rfl, rfl, rfl, rfl, s.report.summary_getLsbD⟩
  · rw [hresp', if_pos ((Lane.endsResponse_iff _ _).2 h)]
  · rw [hresp', if_neg (mt (Lane.endsResponse_iff _ _).1 h)]
  · intro left before after responses hmem
    obtain ⟨htx, hkeep⟩ := s.lane_after_frame src before after responses hmem
    refine ⟨htx.trans (Lane.after_tx _ _), fun copy hcopy => ?_⟩
    obtain ⟨hbehind, hbegins⟩ := Lane.after_waiting before responses copy hcopy
    refine ⟨fun h => ?_, fun h hlen => ?_⟩
    · rw [hkeep (hbehind h).2]
      exact (hbehind h).1
    · rw [hkeep (hbegins h hlen).2]
      exact (hbegins h hlen).1
  · refine (State.engineFrame_link s src l).trans ((if_neg hl).trans ?_)
    exact congrArg (fun e => ({ s.link l with buf := e } : Receiver)) (Elastic.take_eq _)
  · intro l slips repeats hmem dry n hn hle
    exact s.engineFrame_dry src l slips repeats hmem n hn hle
  · exact (congrArg (·[i]) hchans).trans (hrampC i)
  · exact (congrArg (·[g]) hgroups).trans (hrampG g)
  · refine (hbuses b).trans ?_
    rw [hrampB]
    rfl
  · have hlink : ∀ l, t.link l = m.link l := fun l => congrArg (·[linkIdx l]) hlinks
    have hmaster : (s.link .a).lastGood = (m.link .a).lastGood := by
      rw [← hlink]
      exact congrArg Receiver.lastGood (State.engineFrame_link s src .a).symm
    have hwindows : s.ingress = m.ingress := (State.frameMoves_ingress s src).symm
    have hx : t.heldNew.x = m.resultSamples src 0 (by omega) := by rw [hnew]
    have hy : t.heldNew.y = m.resultSamples src 64 (by omega) := by rw [hnew]
    clear ht
    clear_value t m
    rw [hwindows, hmaster, hlink, hlink, hlink, hchans, hgroups, hegress, hx, hy]
    intro supplied raw sample y group output
    have hout : ∀ k : Fin 128, m.slotOut (Vector.ofFn (m.rawSample src)) (m.channelSamples src)
        (m.computeBuses (m.channelSamples src)).out m.egress[k] = output k := fun k => by
      rw [State.channelSamples_eq]
      exact m.slotOut_ofFn _ _ _ _
    refine ⟨fun i h => ?_, fun i w h hu => ?_, fun j => ⟨?_, ?_⟩⟩
    · change m.rawSample src i = 0
      rw [State.rawSample, feeder_eq_none h]
    · change m.rawSample src i = _
      rw [State.rawSample, feeder_eq_some h hu]
      exact congrArg (fun x : Samples => x.toList.getD _ 0) (State.supply_eq m src _)
    · have hfirst : m.egress[0 + j.val] = m.egress[(⟨j.val, by omega⟩ : Fin 128)] := by simp
      rw [State.resultSamples_get, hfirst]
      exact hout _
    · rw [State.resultSamples_get]
      exact hout ⟨64 + j.val, by omega⟩
end Sys2Proof.Machine
end

section
namespace Sys2Proof.Machine

/-! ### The octets of a STATUS snapshot (R163, R171) -/

theorem ClockState.octet_code (c : ClockState) : octet c.code = if c = .locked then 1#8 else 0#8 := by
  cases c <;> rfl

theorem octet_boolNat (b : Bool) : octet (boolNat b) = if b then 1#8 else 0#8 := by
  cases b <;> rfl

theorem Receiver.statusOctets_eq (r : Receiver) :
    r.statusOctets =
      (match r.state with | .absent => 0#8 | .sensing => 1#8 | .accepted => 2#8 | .rejected => 3#8) ::
      (match r.ann with
        | none => [0#8, 0#8, 0#8]
        | some a => [BitVec.ofNat 8 a.cls.val, BitVec.ofNat 8 a.slots, a.ident]) := by
  have hcode : octet r.state.code =
      match r.state with | .absent => 0#8 | .sensing => 1#8 | .accepted => 2#8 | .rejected => 3#8 := by
    cases r.state <;> rfl
  unfold Receiver.statusOctets
  rw [hcode]
  cases r.ann <;> rfl

theorem Sweep.left_eq (w : Sweep) : w.left = match w with | .idle => 0 | .inFlight _ left => left := by
  cases w <;> rfl

/-- The snapshot as R171 lays it out. -/
theorem State.snapshot_eq (s : State) :
    s.snapshot =
      [if s.clock.state = .locked then 1#8 else 0#8, if s.tracker.rolling then 1#8 else 0#8] ++ octets32 s.tracker.pos ++
        ([Link.a, Link.b, Link.c, Link.d].flatMap fun l =>
          (match (s.link l).state with | .absent => 0#8 | .sensing => 1#8 | .accepted => 2#8 | .rejected => 3#8) ::
          (match (s.link l).ann with
            | none => [0#8, 0#8, 0#8]
            | some a => [BitVec.ofNat 8 a.cls.val, BitVec.ofNat 8 a.slots, a.ident])) ++
        octets16 (BitVec.ofNat 16 s.queue.length) ++ octets16 (BitVec.ofNat 16 s.matrix.pool.length) ++
        octets16 (BitVec.ofNat 16 s.matrix.waiting.length) ++
        octets16 (BitVec.ofNat 16 (match s.sweep with | .idle => 0 | .inFlight _ left => left)) ++
        [BitVec.ofNat 8 s.room] := by
  rw [State.snapshot, ClockState.octet_code, octet_boolNat, Sweep.left_eq]
  simp [Receiver.statusOctets_eq, count16, octet]

/-- A STATUS message executed: the snapshot of the state that it finds (R163). -/
theorem State.execute_status (s : State) (tag : Octet) :
    s.execute ⟨0x01#8, tag, []⟩ = s.respond 0x81#8 tag (0x00#8 :: s.snapshot) :=
  State.execute_reply s s ⟨0x01#8, tag, []⟩ _ rfl

/-- Settles O12: either way STATUS comes to `State.execute_status`, in a state that differs by the messages that wait. -/
theorem statusReturnsSnapshot : Obligations.StatusReturnsSnapshot := by
  intro s tag answered
  have hanswer : ∀ (t : State) (room : Nat), t.room = room → t.execute ⟨0x01#8, tag, []⟩ = answered t room := by
    rintro t room rfl
    exact (State.execute_status t tag).trans (congrArg (fun p => t.respond 0x81#8 tag (0x00#8 :: p)) (State.snapshot_eq t))
  refine ⟨fun h => ?_, fun rest hp hc hr => ?_⟩
  · have hexec : exec (.status tag []) s = .next (s.submit ⟨0x01#8, tag, []⟩) := rfl
    rw [hexec, State.submit_ready _ _ h, hanswer s 16]
    rw [State.room, h.1]
    rfl
  · have hstep : step s = .next s.takeMessage := by rw [step, hp]
    rw [hstep, State.takeMessage_ready hc hr, hanswer { s with commands := rest } (16 - rest.length) rfl]

end Sys2Proof.Machine
end

section
namespace Sys2Proof.Machine

/-! ### The records of a WRITE_TABLE, one behind the other (R165) -/

/-- Whole runs of n + 1 octets laid end to end are cut where they meet. -/
theorem cutInto_flatten (n fuel : Nat) (recs : List (List Octet)) (hlen : ∀ o ∈ recs, o.length = n + 1)
    (hfuel : recs.flatten.length ≤ fuel) : cutInto n fuel recs.flatten = recs := by
  induction recs generalizing fuel with
  | nil => cases fuel <;> rfl
  | cons o rest ih =>
    obtain ⟨ho, hrest⟩ := List.forall_mem_cons.1 hlen
    cases o with
    | nil => exact nomatch ho
    | cons x xs =>
      rw [List.flatten_cons] at hfuel ⊢
      have hx : n + 1 ≤ fuel := by
        rw [List.length_append, ho] at hfuel
        omega
      obtain ⟨k, rfl⟩ : ∃ k, fuel = k + 1 := ⟨fuel - 1, by omega⟩
      have hcut : cutInto n (k + 1) ((x :: xs) ++ rest.flatten) =
          (((x :: xs) ++ rest.flatten).take (n + 1)) :: cutInto n k (((x :: xs) ++ rest.flatten).drop (n + 1)) := rfl
      rw [hcut, List.take_left' ho, List.drop_left' ho, ih k hrest]
      rw [List.length_append, ho] at hfuel
      omega

theorem records_flatten {n : Nat} (hn : 1 ≤ n) (recs : List (List Octet)) (hlen : ∀ o ∈ recs, o.length = n) :
    records n recs.flatten = recs :=
  cutInto_flatten (n - 1) _ recs (fun o ho => by rw [hlen o ho]; omega) (Nat.le_refl _)

theorem length_flatten_mod (n : Nat) (recs : List (List Octet)) (hlen : ∀ o ∈ recs, o.length = n) :
    recs.flatten.length % n = 0 := by
  induction recs with
  | nil => rfl
  | cons o rest ih =>
    obtain ⟨ho, hrest⟩ := List.forall_mem_cons.1 hlen
    rw [List.flatten_cons, List.length_append, ho, Nat.add_mod_left]
    exact ih hrest

theorem recordSize_pos (space : Fin 8) : 1 ≤ recordSize space := by
  revert space
  decide

theorem recordSize_eq (space : Fin 8) : [5, 5, 3, 3, 4, 4, 2, 5].getD space.val 0 = recordSize space := by
  revert space
  decide

theorem toNat_octet {n : Nat} (h : n < 256) : (octet n).toNat = n := by
  rw [octet, BitVec.toNat_ofNat, Nat.mod_eq_of_lt h]

/-- WRITE_TABLE of a space and of one or more whole records of it passes its admission (R165). -/
theorem doWriteTable_records (s : State) (space : Fin 8) (first : Octet) (recs : List (List Octet)) (hne : recs ≠ [])
    (hlen : ∀ o ∈ recs, o.length = recordSize space) (w : TableWrite)
    (hw : State.writeRecords space first.toNat recs s = w) :
    doWriteTable (octet space.val :: first :: recs.flatten) s =
      .counted (s.afterWrite w.state space first.toNat w.count) (w.refusal.getD .ok) w.count := by
  have hspace : index? 8 (List.getD (octet space.val :: first :: recs.flatten) 0 0).toNat = some space := by
    rw [List.getD_cons_zero, toNat_octet (by omega)]
    exact index?_of_lt space.isLt
  have hflat : recs.flatten ≠ [] := by
    obtain ⟨o, rest, rfl⟩ := List.exists_cons_of_ne_nil hne
    intro h
    have ho := hlen o List.mem_cons_self
    rw [(List.append_eq_nil_iff.1 h).1] at ho
    have hpos := recordSize_pos space
    rw [← ho] at hpos
    exact nomatch hpos
  have hadmit : ¬(recs.flatten = [] ∨ recs.flatten.length % recordSize space ≠ 0) :=
    fun h => h.elim hflat fun h => h (length_flatten_mod _ _ hlen)
  have hrecs : records (recordSize space) recs.flatten = recs := records_flatten (recordSize_pos space) recs hlen
  subst hw
  rw [doWriteTable, if_neg (by simp), hspace]
  refine (if_neg hadmit).trans ?_
  rw [List.drop_succ_cons, List.drop_succ_cons, List.drop_zero, hrecs]
  rfl

/-- A row of WRITE_TABLE at a free processor: its reply, answered (R158, R165). -/
theorem exec_writeTable_reply {s : State} (h : s.ready) (tag : Octet) (p : List Octet) (t : State) (st : Status) (n : Nat)
    (hr : doWriteTable p s = .counted t st n) :
    exec (.writeTable tag p) s = .next (t.respond 0x83#8 tag [st.octet, octet n]) := by
  have he : exec (.writeTable tag p) s = .next (s.submit ⟨3#8, tag, p⟩) := rfl
  have hrun : runMessage ⟨3#8, tag, p⟩ s = ⟨t, [st.octet, octet n]⟩ := hr
  rw [he, State.submit_ready _ _ h, State.execute_reply _ _ _ _ hrun]
  rfl

/-- Records that are written one behind the other, `states j` being the engine when j of them are. -/
theorem State.writeRecords_written (space : Fin 8) (idx : Nat) (recs : List (List Octet)) (states : Nat → State) (n : Nat)
    (hn : n ≤ recs.length)
    (hw : ∀ j, j < n → (states j).writeRecord space (idx + j) (recs.getD j []) = .ok (states (j + 1))) :
    State.writeRecords space idx recs (states 0) =
      { State.writeRecords space (idx + n) (recs.drop n) (states n) with
        count := (State.writeRecords space (idx + n) (recs.drop n) (states n)).count + n } := by
  induction n generalizing idx recs states with
  | zero => rfl
  | succ n ih =>
    cases recs with
    | nil => exact absurd hn (Nat.not_succ_le_zero n)
    | cons o rest =>
      have h0 : (states 0).writeRecord space idx o = .ok (states 1) := hw 0 (Nat.zero_lt_succ n)
      have hrest := ih (idx + 1) rest (fun j => states (j + 1)) (Nat.le_of_succ_le_succ hn) fun j hj => by
        have := hw (j + 1) (Nat.succ_lt_succ hj)
        rwa [← Nat.add_assoc, Nat.add_right_comm] at this
      rw [Nat.add_right_comm, Nat.add_assoc] at hrest
      rw [State.writeRecords, h0]
      dsimp only at hrest ⊢
      rw [hrest]
      rfl

/-- The statuses that refuse a record (R165). -/
def Status.refusesRecord (e : Status) : Prop := e = .range ∨ e = .busy ∨ e = .tier ∨ e = .overlap

/-- A write that is refused has a status of `E`, and one that is not leaves a state of `R`. -/
def Written.Ends (E : Status → Prop) (R : State → Prop) (w : Written) : Prop :=
  (∀ e, w = .error e → E e) ∧ ∀ t, w = .ok t → R t

section
variable {E : Status → Prop} {R : State → Prop}

theorem Written.Ends.error {e : Status} (h : E e) : Written.Ends E R (.error e) := by
  refine ⟨fun e' he => ?_, fun _ ht => nomatch ht⟩
  cases he
  exact h

theorem Written.Ends.ok {t : State} (h : R t) : Written.Ends E R (.ok t) := by
  refine ⟨(fun _ he => nomatch he), fun u hu => ?_⟩
  cases hu
  exact h

theorem Written.Ends.ranged {α : Type} {x : Option α} {f : α → Written} (hr : E .range)
    (h : ∀ a, x = some a → Written.Ends E R (f a)) : Written.Ends E R (ranged x f) := by
  cases x with
  | none => exact .error hr
  | some a => exact h a rfl

theorem Written.Ends.ite {c : Prop} {_ : Decidable c} {a b : Written} (ha : c → a.Ends E R) (hb : ¬c → b.Ends E R) :
    Written.Ends E R (if c then a else b) := by
  split
  · next h => exact ha h
  · next h => exact hb h

end

/-- R165: the owners of the eight spaces refuse a record with RANGE, BUSY, TIER or OVERLAP. -/
theorem State.writeRecord_refused (s : State) (space : Fin 8) (idx : Nat) (o : List Octet) :
    (s.writeRecord space idx o).Ends Status.refusesRecord fun _ => True := by
  have range : Status.refusesRecord .range := .inl rfl
  have busy : Status.refusesRecord .busy := .inr (.inl rfl)
  have tier : Status.refusesRecord .tier := .inr (.inr (.inl rfl))
  have overlap : Status.refusesRecord .overlap := .inr (.inr (.inr rfl))
  have whole : ∀ {t : State}, Written.Ends Status.refusesRecord (fun _ => True) (.ok t) := .ok trivial
  unfold State.writeRecord
  split
  · exact .ranged range fun i _ => .ranged range fun f _ => whole
  · exact .ranged range fun i _ => .ranged range fun f _ => .ite (fun _ => whole) fun _ => .error tier
  · exact .ranged range fun i _ => .ranged range fun n _ => whole
  · exact .ranged range fun i _ => .ranged range fun a _ => whole
  · exact .ranged range fun i _ => .ranged range fun w _ => .ite (fun _ => whole) fun _ => .error overlap
  · exact .ranged range fun i _ => .ite (fun _ => .error busy) fun _ =>
      .ranged range fun u _ => .ranged range fun n _ => whole
  · exact .ranged range fun i _ => .ranged range fun n _ => whole
  · exact .ranged range fun i _ => .ranged range fun c _ => whole

/-- R36, R37, R42: the mute components once link mute is evaluated again, written out. -/
theorem State.reviewMutes_eq (w : State) (g : Vector Window 16) (x : Vector Receiver 4) :
    w.reviewMutes g x = { w with
      chans := Vector.ofFn fun i : Fin 192 =>
        if linkMuted g x i = false ∧ linkMuted w.ingress w.links i = true then
          { w.chans[i] with mute := (⟨-960, -960, 0, 0⟩ : Ramp) }
        else if linkMuted g x i = true ∧ linkMuted w.ingress w.links i = false ∧ w.chans[i].opMute = false then
          { w.chans[i] with mute := (⟨w.chans[i].mute.cur, 0, 960, 0⟩ : Ramp) }
        else w.chans[i] } := by
  unfold State.reviewMutes
  congr 2
  funext i
  exact Chan.linkMuteChange_eq _ _ _

/-- The whole-command effects by space (R33, R42). -/
theorem State.afterWrite_eq (s w : State) (space : Fin 8) (idx n : Nat) :
    let written := (List.range n).map fun j => j + idx
    s.afterWrite w space idx n =
      if space = 3 then
        (((w.reclassify written .a).reclassify written .b).reclassify written .c).reclassify written .d
      else if space = 4 then w.reviewMutes s.ingress s.links
      else w := by
  match space with
  | 0 => rfl
  | 1 => rfl
  | 2 => rfl
  | 3 => rfl
  | 4 => rfl
  | 5 => rfl
  | 6 => rfl
  | 7 => rfl

/-- Settles O20: the records up to the first refused are those of `State.writeRecords_written`, and behind them the command
ends as `doWriteTable_records` says. -/
theorem writeTableStopsAtFirstRefusal : Obligations.WriteTableStopsAtFirstRefusal := by
  intro s tag first hready
  refine ⟨fun sp rest hsp => ?_, fun space recs states n hne _ hlen hn h0 hw => ?_⟩
  · have hrange : doWriteTable (sp :: first :: rest) s = .counted s .range 0 := by
      have hspace : index? 8 (List.getD (sp :: first :: rest) 0 0).toNat = none := index?_of_le hsp
      rw [doWriteTable, if_neg (by simp), hspace]
    exact exec_writeTable_reply hready tag _ s .range 0 hrange
  · intro w classes ended command
    have hended : s.afterWrite w space first.toNat n = ended := by
      rw [State.afterWrite_eq, State.reviewMutes_eq]
    rw [recordSize_eq] at hlen
    have hcommand : command = .writeTable tag (octet space.val :: first :: recs.flatten) := rfl
    clear_value ended command
    have row : ∀ refusal, State.writeRecords space (first.toNat + n) (recs.drop n) w = ⟨w, 0, refusal⟩ →
        exec command s = .next (ended.respond 0x83#8 tag [(refusal.getD .ok).octet, BitVec.ofNat 8 n]) := by
      intro refusal hrest
      have hall : State.writeRecords space first.toNat recs s = ⟨w, n, refusal⟩ := by
        rw [← h0, State.writeRecords_written space first.toNat recs states n hn hw, hrest]
        simp
      have hdo := doWriteTable_records s space first recs hne hlen _ hall
      rw [hcommand, ← hended]
      exact exec_writeTable_reply hready tag _ _ _ _ hdo
    refine ⟨fun hfull => row none ?_, fun e hlt he => ⟨(State.writeRecord_refused _ _ _ _).1 e he, ?_⟩⟩
    · rw [hfull, List.drop_length]
      rfl
    · have hdrop : recs.drop n = recs.getD n [] :: recs.drop (n + 1) := by
        rw [List.drop_eq_getElem_cons hlt, List.getD_eq_getElem _ _ hlt]
      have hrow := row (some e) (by rw [hdrop, State.writeRecords, he])
      rw [hrow]
      rcases (State.writeRecord_refused _ _ _ _).1 e he with rfl | rfl | rfl | rfl <;> rfl

end Sys2Proof.Machine
end

section
namespace Sys2Proof.Machine

/-! ### Windows and the channels they cover (R36, R38, R41) -/

theorem Window.covers_iff (w : Window) (i : Nat) :
    w.covers i = true ↔ w.enabled = true ∧ w.chan ≤ i ∧ i ≤ w.chan + (w.last - w.first) := by
  rw [Window.covers, Bool.and_eq_true, decide_eq_true_eq]

theorem linkMuted_of_uncovered {g : Vector Window 16} {i : Fin 192} (x : Vector Receiver 4)
    (h : ∀ w : Fin 16, g[w].covers i.val = false) : linkMuted g x i = true := by
  rw [linkMuted, feeder_eq_none h]

theorem linkMuted_of_covered {g : Vector Window 16} {i : Fin 192} {w : Fin 16} (x : Vector Receiver 4)
    (h : g[w].covers i.val = true) (hu : ∀ v : Fin 16, v ≠ w → g[v].covers i.val = false) :
    linkMuted g x i = true ↔ x[windowLink w].state ≠ .accepted := by
  rw [linkMuted, feeder_eq_some h hu]
  exact bne_iff_ne

/-- Two windows overlap where there is a channel that both cover (R41). -/
theorem Window.overlaps_iff (w v : Window) : w.overlaps v = true ↔ ∃ i, v.covers i = true ∧ w.covers i = true := by
  simp only [Window.covers_iff, Window.overlaps, Bool.and_eq_true, decide_eq_true_eq]
  constructor
  · rintro ⟨⟨hw, hv⟩, h1, h2⟩
    exact ⟨max w.chan v.chan, ⟨hv, by omega, by omega⟩, hw, by omega, by omega⟩
  · rintro ⟨i, ⟨hv, h1, h2⟩, hw, h3, h4⟩
    exact ⟨⟨hw, hv⟩, by omega, by omega⟩

theorem State.windowFree_iff (s : State) (k : Fin 16) (w : Window) :
    s.windowFree k w = true ↔ ∀ v : Fin 16, v ≠ k → ∀ i, ¬(s.ingress[v].covers i = true ∧ w.covers i = true) := by
  have hpair : ∀ v : Fin 16, (v == k || !w.overlaps s.ingress[v]) = true ↔
      (v ≠ k → ∀ i, ¬(s.ingress[v].covers i = true ∧ w.covers i = true)) := fun v => by
    rw [Bool.or_eq_true, beq_iff_eq, Bool.not_eq_true', ← Bool.not_eq_true, Window.overlaps_iff, not_exists]
    exact or_iff_not_imp_left
  simp only [State.windowFree, List.all_eq_true, List.mem_finRange, forall_const]
  exact forall_congr' hpair

/-! ### WRITE_TABLE of one INGRESS record (R40, R41, R42) -/

theorem bit?_of_le {n : Nat} (h : n ≤ 1) : bit? n = some (decide (n = 1)) := by
  unfold bit?
  have : n = 0 ∨ n = 1 := by omega
  rcases this with h | h <;> simp [h]

theorem bit?_of_lt {n : Nat} (h : 1 < n) : bit? n = none := by
  rw [bit?, if_neg (by omega), if_neg (by omega)]

theorem windowFields?_refused (e first last chan : Octet)
    (h : 1 < e.toNat ∨ last.toNat < first.toNat ∨ 63 < last.toNat ∨ 191 < chan.toNat ∨
      (first.toNat ≤ last.toNat ∧ 191 < chan.toNat + (last.toNat - first.toNat))) :
    windowFields? [e, first, last, chan] = none := by
  have hrange : 1 < e.toNat ∨ ¬(first.toNat ≤ last.toNat ∧ last.toNat ≤ 63 ∧ chan.toNat ≤ 191 ∧
      chan.toNat + (last.toNat - first.toNat) ≤ 191) := by omega
  rcases hrange with he | hr
  · simp only [windowFields?, List.getD_cons_zero, bit?_of_lt he]
    rfl
  · simp only [windowFields?, List.getD_cons_zero, List.getD_cons_succ, if_neg hr]
    cases bit? e.toNat <;> rfl

theorem windowFields?_taken (e first last chan : Octet) (he : e.toNat ≤ 1) (h1 : first.toNat ≤ last.toNat)
    (h2 : last.toNat ≤ 63) (h3 : chan.toNat + (last.toNat - first.toNat) ≤ 191) :
    windowFields? [e, first, last, chan] = some ⟨decide (e.toNat = 1), first.toNat, last.toNat, chan.toNat⟩ := by
  have hchan : chan.toNat ≤ 191 := by omega
  simp only [windowFields?, List.getD_cons_zero, List.getD_cons_succ, bit?_of_le he, h1, h2, h3, hchan, and_self, if_true]
  rfl

/-- One record of INGRESS: refused with RANGE, refused with OVERLAP, or written (R40, R41). -/
theorem State.writeRecords_ingress (s : State) (idx : Nat) (o : List Octet) :
    State.writeRecords 4 idx [o] s =
      match index? 16 idx, windowFields? o with
      | some k, some w =>
        if s.windowFree k w then ⟨{ s with ingress := s.ingress.set k w }, 1, none⟩ else ⟨s, 0, some .overlap⟩
      | _, _ => ⟨s, 0, some .range⟩ := by
  have hw : s.writeRecord 4 idx o = s.writeIngress idx o := rfl
  rw [State.writeRecords, hw, State.writeIngress]
  cases index? 16 idx with
  | none => rfl
  | some k =>
    cases windowFields? o with
    | none => rfl
    | some w =>
      by_cases hf : s.windowFree k w = true
      · simp only [ranged, if_pos hf]
        rfl
      · simp only [ranged, if_neg hf]

/-- Link mute evaluated again against windows and links as they still are changes nothing (R42). -/
theorem State.reviewMutes_self (s : State) : s.reviewMutes s.ingress s.links = s := by
  have hchan : ∀ i : Fin 192,
      s.chans[i].linkMuteChange (linkMuted s.ingress s.links i) (s.muted i) = s.chans[i] := fun i => by
    rw [Chan.linkMuteChange_eq, State.muted, if_neg (fun h => nomatch h.1.symm.trans h.2),
      if_neg (fun h => nomatch h.1.symm.trans h.2.1)]
  have hchans : (Vector.ofFn fun i : Fin 192 => s.chans[i]) = s.chans := by
    ext i hi
    simp
  unfold State.reviewMutes
  simp only [hchan, hchans]

/-- A row of WRITE_TABLE with one INGRESS record (R42, R165). -/
theorem exec_writeTable_ingress {s : State} (h : s.ready) (tag idx e first last chan : Octet) (w : TableWrite)
    (hw : State.writeRecords 4 idx.toNat [[e, first, last, chan]] s = w) :
    exec (.writeTable tag [4#8, idx, e, first, last, chan]) s =
      .next ((w.state.reviewMutes s.ingress s.links).respond 0x83#8 tag [(w.refusal.getD .ok).octet, octet w.count]) := by
  have hdo := doWriteTable_records s 4 idx [[e, first, last, chan]] (List.cons_ne_nil _ _)
    (fun o ho => by rw [List.mem_singleton.1 ho]; rfl) w hw
  exact exec_writeTable_reply h tag _ _ _ _ hdo

/-- Settles O18: the record is judged by `windowFields?` and `State.windowFree_iff`, and `State.reviewMutes_eq` says what
becomes of the mute components. -/
theorem writeIngressRecord : Obligations.WriteIngressRecord := by
  unfold Obligations.WriteIngressRecord
  intro covers
  have hcovers : covers = fun w i => w.covers i = true :=
    funext fun w => funext fun i => propext (Window.covers_iff w i).symm
  clear_value covers
  subst hcovers
  refine ⟨fun s i => ⟨fun h => ?_, fun w l hl h hu => ?_⟩, fun s hready => ⟨fun tag idx e first last chan h => ?_,
    fun tag e first last chan k he h1 h2 h3 => ?_⟩⟩
  · exact linkMuted_of_uncovered _ fun w => Bool.eq_false_iff.2 (h w)
  · have hlink : windowLink w = linkIdx l := Fin.ext (hl.trans (by cases l <;> rfl))
    have hmuted := linkMuted_of_covered s.links h fun v hv => Bool.eq_false_iff.2 fun hc => hv (hu v hc)
    simp only [hlink] at hmuted
    exact hmuted
  · have hw : State.writeRecords 4 idx.toNat [[e, first, last, chan]] s = ⟨s, 0, some .range⟩ := by
      rw [State.writeRecords_ingress]
      rcases h with h | h
      · rw [index?_of_le h]
      · rw [windowFields?_refused e first last chan h]
        cases index? 16 idx.toNat <;> rfl
    rw [exec_writeTable_ingress hready tag idx e first last chan _ hw, State.reviewMutes_self]
    rfl
  · intro window table overlap command
    have hw : State.writeRecords 4 (octet k.val).toNat [[e, first, last, chan]] s =
        if s.windowFree k window then ⟨{ s with ingress := table }, 1, none⟩ else ⟨s, 0, some .overlap⟩ := by
      rw [State.writeRecords_ingress, toNat_octet (by omega), index?_of_lt k.isLt,
        windowFields?_taken e first last chan he h1 h2 h3]
    have row := exec_writeTable_ingress hready tag (octet k.val) e first last chan
    refine ⟨fun ho => ?_, fun hno hok => ?_⟩
    · obtain ⟨v, i, hv, _, hboth⟩ := ho
      have hbusy : ¬s.windowFree k window = true := fun hf => (s.windowFree_iff k window).1 hf v hv i hboth
      rw [if_neg hbusy] at hw
      refine (row _ hw).trans ?_
      rw [State.reviewMutes_self]
      rfl
    · have hfree : s.windowFree k window = true :=
        (s.windowFree_iff k window).2 fun v hv i hboth => hno ⟨v, i, hv, hok v, hboth⟩
      rw [if_pos hfree] at hw
      refine (row _ hw).trans ?_
      rw [State.reviewMutes_eq]
      rfl

end Sys2Proof.Machine
end

section
namespace Sys2Proof.Machine

/-! ### The elementary changes of the state -/

/-- Every code that waits in the automation queue is in range (R136). -/
def State.QueueCodes (s : State) : Prop := ∀ e ∈ s.queue, e.move.codeOk

/-- R32: an acceptance entry that a write could have put there. -/
def AcceptRec.ok (a : AcceptRec) : Prop := 1 ≤ a.min ∧ a.min ≤ a.max ∧ a.max ≤ 64

/-- R40: a window that a write could have put there. -/
def Window.ok (w : Window) : Prop := w.first ≤ w.last ∧ w.last ≤ 63 ∧ w.chan + (w.last - w.first) ≤ 191

/-- R38, R40, R41: the windows are as writes could have left them, and no channel is fed twice. -/
def IngressOk (g : Vector Window 16) : Prop :=
  (∀ w : Fin 16, g[w].ok) ∧
    ∀ v w : Fin 16, v ≠ w → ∀ i : Fin 192, ¬(g[v].covers i.val = true ∧ g[w].covers i.val = true)

/-- R63: the ramp is as it was, or begun again for a code that is in range when those in the queue are. -/
def State.Restarts (s : State) (r r' : Ramp) : Prop :=
  r' = r ∨ ∃ (t : Int) (len : Nat), (s.QueueCodes → inGainRange t) ∧ r' = r.aim t len

/-- The changes that a step is made of, each the work of one block of the card. `outside` is of the parts that none of the
kept properties of the stored codes, mutes, tables, counters and queue speaks of. -/
inductive State.Change (s : State) : State → Prop
  | outside (ck : Clock) (tr : Tracker) (fr : Framer) (cm rs : List Message) (ho hn : Held) (se : Option SentPair)
      (pe : List Instr) :
      Change s { s with
        clock := ck, tracker := tr, framer := fr, commands := cm, responses := rs, heldOld := ho, heldNew := hn, sent := se
        pending := pe }
  | report (rp : Report) (h : ∀ n : Fin 84, rp.counters[n] ≤ s.report.counters[n]) : Change s { s with report := rp }
  | counted (n : Fin 84) : Change s (s.addCount n)
  | receivers (lk : Vector Receiver 4) (h : ∀ l : Fin 4, lk[l].state = s.links[l].state) : Change s { s with links := lk }
  | relinked (lk : Vector Receiver 4) : Change s ({ s with links := lk }.reviewMutes s.ingress s.links)
  | accept (k : Fin 16) (a : AcceptRec) (h : a.ok) : Change s { s with accept := s.accept.set k a }
  | ingress (g : Vector Window 16) (h : IngressOk s.ingress → IngressOk g) :
      Change s ({ s with ingress := g }.reviewMutes s.ingress s.links)
  | chan (i : Fin 192) (c : Chan) (ht : s.Restarts s.chans[i].trim c.trim) (hm : c.mute = s.chans[i].mute)
      (ho : c.opMute = s.chans[i].opMute) : Change s (s.setChan i c)
  | opMute (i : Fin 192) (on : Bool) : Change s (s.setChan i (s.chans[i].setOpMute on (s.muted i)))
  | group (i : Fin 32) (g : Group) (ht : s.Restarts s.groups[i].trim g.trim) : Change s (s.setGroup i g)
  | bus (i : Fin 64) (b : Bus) (hl : s.Restarts s.buses[i].level b.level) (hm : b.muteRamp = s.buses[i].muteRamp)
      (ho : b.muted = s.buses[i].muted) : Change s (s.setBus i b)
  | busMute (i : Fin 64) (on : Bool) : Change s (s.setBus i (s.buses[i].setMute on))
  | xp (r : Fin 256) (c : Fin 64) (t : Int) (n : Fin 8) (h : s.QueueCodes → inGainRange t) :
      Change s { s with matrix := s.matrix.write r c t n }
  | completed (e : PoolEntry) (h : e ∈ s.matrix.pool) : Change s { s with matrix := s.matrix.completeEntry e }
  | ramps : Change s s.advanceRamps
  | egress (eg : Vector Slot 128) : Change s { s with egress := eg }
  | queued (e : AutoEvent) (h : s.queue.length < 512) (hc : e.move.codeOk) :
      Change s { s with queue := insertEvent e s.queue }
  | unqueued (q : List AutoEvent) (h : q <:+ s.queue) : Change s { s with queue := q }
  | window (w : MatrixWindow) (h : WindowOk w) : Change s { s with window := w }
  | windowStep : Change s s.stepWindow
  | sweepBegun (n : Fin 8) : Change s { s with sweep := .inFlight n 16384 }
  | swept (n : Fin 8) (left : Nat) (h : s.sweep = .inFlight n left) (hl : 128 < left) :
      Change s { s with sweep := .inFlight n (left - 128) }
  | sweepEnded : Change s { s with sweep := .idle }
  | engineReset : Change s s.engineReset
  | startUp : Change s State.reset

/-- A run of elementary changes. -/
def State.Runs : State → State → Prop := Relation.ReflTransGen State.Change

theorem State.Runs.refl (s : State) : s.Runs s := Relation.ReflTransGen.refl

theorem State.Runs.trans {s t u : State} (h : s.Runs t) (k : t.Runs u) : s.Runs u := Relation.ReflTransGen.trans h k

theorem State.Change.runs {s t : State} (h : s.Change t) : s.Runs t := Relation.ReflTransGen.single h

theorem State.Runs.change {s t u : State} (h : s.Runs t) (k : t.Change u) : s.Runs u := Relation.ReflTransGen.tail h k

/-- What every elementary change keeps, every run of them keeps. -/
theorem State.Runs.keeps {P : State → Prop} (hP : ∀ s t : State, s.Change t → P s → P t) {s t : State} (h : s.Runs t)
    (hs : P s) : P t := by
  induction h with
  | refl => exact hs
  | tail _ hc ih => exact hP _ _ hc ih

/-! ### Reports -/

theorem State.Runs.quietReport (s : State) (rp : Report) (h : rp.counters = s.report.counters) :
    s.Runs { s with report := rp } :=
  (State.Change.report rp fun n => by rw [h]).runs

theorem State.Runs.setItem (s : State) (i : Item) : s.Runs (s.setItem i) :=
  .quietReport s _ (Report.setItem_counters s.report i)

theorem State.Runs.addCount (s : State) (n : Fin 84) : s.Runs (s.addCount n) := (State.Change.counted n).runs

theorem State.Runs.addCount_setItem (s : State) (n : Fin 84) (i : Item) : s.Runs ((s.addCount n).setItem i) :=
  (State.Runs.addCount s n).trans (.setItem _ i)

theorem State.Runs.addCounts (s : State) (n : Fin 84) (k : Nat) : s.Runs { s with report := s.report.addCounts n k } := by
  induction k with
  | zero => exact .refl s
  | succ k ih => exact ih.trans (.addCount _ n)

theorem State.Runs.addSlip (s : State) (l : Link) : s.Runs { s with report := s.report.addSlip l } := by
  unfold Report.addSlip
  split
  · exact .refl s
  · next n _ => exact .addCount s n

/-- A branch is a run when each of its sides is one. -/
theorem State.Runs.ite {s t u : State} (c : Prop) {_ : Decidable c} (ht : c → s.Runs t) (hu : ¬c → s.Runs u) :
    s.Runs (if c then t else u) := by
  split
  · next h => exact ht h
  · next h => exact hu h

theorem State.Runs.reportIf (s : State) (c : Prop) {_ : Decidable c} (rp : Report) (h : s.Runs { s with report := rp }) :
    s.Runs { s with report := if c then rp else s.report } := by
  split
  · exact h
  · exact .refl s

theorem State.Runs.judgeLow (s : State) (before : Nat) : s.Runs (s.judgeLow before) :=
  .reportIf s _ _ (.setItem s .low)

/-! ### Moves (R143) -/

theorem State.Runs.afterJoin (s : State) (b : Bool) : s.Runs { s with report := s.report.afterJoin b } := by
  refine (State.Runs.addCount s rampsDelayedCount).trans ?_
  exact .reportIf (s.addCount rampsDelayedCount) (b = true) _ (.setItem _ .poolWait)

theorem State.Runs.writeXp (s : State) (r : Fin 256) (c : Fin 64) (t : Int) (n : Fin 8)
    (h : s.QueueCodes → inGainRange t) : s.Runs (s.writeXp r c t n) := by
  refine (State.Change.xp r c t n h).runs.trans ?_
  exact .reportIf { s with matrix := s.matrix.write r c t n } _ _ (.afterJoin _ _)

theorem State.Runs.refuseEvent (s : State) : s.Runs s.refuseEvent := .addCount_setItem s refusedCount .refused

theorem State.Runs.punchRequest (s : State) (i : Fin 128) (into : Bool) : s.Runs (s.punchRequest i into) :=
  (State.Runs.reportIf s _ _ (.setItem s (.punch i))).change (.egress _)

theorem inGainRange_offCode : inGainRange offCode := ⟨by decide, by decide⟩

/-- An applied move is a run, its code being in range when those in the queue are. -/
theorem State.Runs.applyMove (s : State) (m : Move) (h : s.QueueCodes → m.codeOk) : s.Runs (s.applyMove m) := by
  cases m with
  | xpTarget r c code n => exact .ite _ (fun _ => .writeXp s r c code n h) (fun _ => .refuseEvent s)
  | srcTrim i code n =>
    exact (State.Change.chan i { s.chans[i] with trim := s.chans[i].trim.aim code (rampLen n) } (.inr ⟨code, _, h, rfl⟩)
      rfl rfl).runs
  | groupTrim i code n => exact (State.Change.group i _ (.inr ⟨code, _, h, rfl⟩)).runs
  | busLevel i code n =>
    exact (State.Change.bus i { s.buses[i] with level := s.buses[i].level.aim code (rampLen n) } (.inr ⟨code, _, h, rfl⟩)
      rfl rfl).runs
  | srcMute i on => exact (State.Change.opMute i on).runs
  | busMute i on => exact (State.Change.busMute i on).runs
  | punchIn i => exact .ite _ (fun _ => .punchRequest s i true) (fun _ => .refuseEvent s)
  | punchOut i => exact .ite _ (fun _ => .punchRequest s i false) (fun _ => .refuseEvent s)

/-- No move reads the queue. -/
theorem State.applyMove_of_queue (s : State) (q : List AutoEvent) (m : Move) :
    { s with queue := q }.applyMove m = { s.applyMove m with queue := q } := by
  have hite : ∀ (c : Prop) {_ : Decidable c} (t u : State),
      ({ (if c then t else u) with queue := q } : State) = if c then { t with queue := q } else { u with queue := q } := by
    intro c _ t u
    split <;> rfl
  cases m with
  | xpTarget r c code n => exact (hite _ (s.writeXp r c code n) s.refuseEvent).symm
  | punchIn i => exact (hite _ (s.punchRequest i true) s.refuseEvent).symm
  | punchOut i => exact (hite _ (s.punchRequest i false) s.refuseEvent).symm
  | _ => rfl

/-! ### Automation and tracker -/

theorem State.Runs.countDeferred (s : State) (due : Position) : s.Runs (s.countDeferred due) :=
  .ite _ (fun _ => .addCount_setItem s deferredCount .deferred) (fun _ => .refl s)

/-- R142: an event from the head of the queue is applied while it still stands there, and then leaves the queue. -/
theorem State.Runs.applyHead (s : State) (e : AutoEvent) (rest : List AutoEvent) (hq : s.queue = e :: rest) :
    s.Runs ({ s with queue := rest }.applyMove e.move) := by
  rw [State.applyMove_of_queue]
  refine (State.Runs.applyMove s e.move fun h => h e ?_).change (.unqueued rest ?_)
  · rw [hq]
    exact List.mem_cons_self
  · rw [State.applyMove_queue, hq]
    exact List.suffix_cons e rest

theorem State.Runs.applyDue (n : Nat) (s : State) : s.Runs (State.applyDue n s) := by
  induction n generalizing s with
  | zero => exact .refl s
  | succ n ih =>
    unfold State.applyDue
    split
    · exact .refl s
    · next e rest hq =>
      refine .ite _ (fun _ => .refl s) fun _ => .ite _ (fun _ => .refl s) fun _ => ?_
      exact ((State.Runs.applyHead s e rest hq).trans (.countDeferred _ e.due)).trans (ih _)

theorem State.Runs.automate (s : State) : s.Runs s.automate :=
  .ite _ (fun _ => (State.Runs.applyDue appliedPerFrame s).trans (.judgeLow _ _)) (fun _ => .refl s)

theorem State.Runs.flush (s : State) : s.Runs s.flush :=
  (State.Runs.addCounts s flushedCount s.queue.length).change (.unqueued [] List.nil_suffix)

theorem State.Runs.jump (s : State) : s.Runs s.jump :=
  ((State.Runs.flush s).trans (.setItem _ .jump)).trans (.judgeLow _ _)

theorem State.Runs.withTracker (s : State) (tr : Tracker) : s.Runs { s with tracker := tr } :=
  (State.Change.outside s.clock tr s.framer s.commands s.responses s.heldOld s.heldNew s.sent s.pending).runs

theorem State.Runs.track (s : State) (src : FrameSource) : s.Runs (s.track src) := by
  cases src with
  | passing x p r =>
    have h := State.Runs.withTracker s ⟨p, r⟩
    exact .ite _ (fun _ => h) (fun _ => h.trans (.jump _))
  | failed => exact .withTracker s _
  | oscillator => exact .withTracker s _

/-! ### The engine frame -/

theorem State.Runs.foldl {α : Type} {f : State → α → State} (hf : ∀ (s : State) (a : α), s.Runs (f s a))
    (l : List α) (s : State) :
    s.Runs (l.foldl f s) :=
  State.foldl_touches State.Runs.refl (fun _ _ _ => State.Runs.trans) hf l s

theorem State.Runs.advanceSlot (s : State) (i : Fin 128) : s.Runs (s.advanceSlot i) :=
  (State.Runs.reportIf s _ _ (.setItem s (.punch i))).change (.egress _)

theorem State.Runs.advancePunches (s : State) : s.Runs s.advancePunches := .foldl State.Runs.advanceSlot _ s

theorem State.Runs.noteClip (v : Vector Bool 64) (s : State) (c : Fin 64) : s.Runs (State.noteClip v s c) := by
  refine (State.Change.bus c { s.buses[c] with clipping := v[c] } (.inl rfl) rfl rfl).runs.trans ?_
  exact .reportIf (s.setBus c _) _ _ ((State.Runs.setItem _ (.clip c)).trans (.addCount _ (clipCountOf c)))

theorem State.Runs.computeFrame (s : State) (src : FrameSource) : s.Runs (s.computeFrame src) := by
  rw [State.computeFrame_eq]
  exact (State.Runs.foldl (State.Runs.noteClip _) _ s).change (.outside _ _ _ _ _ _ _ _ _)

theorem State.Runs.visit (s : State) (n : Fin 8) (k : Nat) : s.Runs (s.visit n k) := by
  refine .foldl (fun s j => ?_) _ s
  split
  · exact .writeXp s _ _ _ _ fun _ => inGainRange_offCode
  · exact .refl s

theorem State.Runs.sweepVisits (s : State) : s.Runs s.sweepVisits := by
  unfold State.sweepVisits
  split
  · exact .refl s
  · next n left hsweep =>
    have hv := State.Runs.visit s n (16384 - left)
    have hsame : (s.visit n (16384 - left)).sweep = .inFlight n left := by
      obtain ⟨_, _, h⟩ := State.visit_touches s n (16384 - left)
      rw [h, hsweep]
    dsimp only
    revert hv hsame
    generalize s.visit n (16384 - left) = t
    intro hv hsame
    split
    · exact (hv.trans (.setItem t .sweepDone)).change .sweepEnded
    · next hl =>
      have hlt : 128 < left := Nat.lt_of_not_le hl
      exact hv.change (.swept n left hsame hlt)

theorem State.Runs.compose (s : State) : s.Runs s.compose := by
  have hcounters : s.compose.report.counters = s.report.counters := (Report.composeIfDue_same s.afterWords).2
  have hsent : s.Runs { s with sent := s.compose.sent, responses := s.compose.responses } :=
    (State.Change.outside s.clock s.tracker s.framer s.commands s.compose.responses s.heldOld s.heldNew s.compose.sent
      s.pending).runs
  exact hsent.trans (.quietReport _ s.compose.report hcounters)

/-- A receiver written anew in the same state. -/
theorem State.Runs.setLink (s : State) (l : Link) (r : Receiver) (h : r.state = (s.link l).state) :
    s.Runs (s.setLink l r) := by
  refine (State.Change.receivers _ fun m => ?_).runs
  rw [state_set]
  split
  · next e =>
    rw [h, e]
    rfl
  · rfl

theorem State.Runs.takeBuffer (s : State) (l : Link) : s.Runs (s.takeBuffer l) := by
  refine (State.Runs.setLink s l { s.link l with buf := (s.link l).buf.take } rfl).trans ?_
  exact .reportIf (s.setLink l _) _ _ ((State.Runs.addSlip _ l).trans (.addCount _ (repeatsOf l)))

theorem State.Runs.frameStart (s : State) : s.Runs s.frameStart := by
  have htimer := (State.Runs.compose s).trans (.quietReport _ s.compose.report.lowerTimer (Report.lowerTimer_same _).2)
  exact ((htimer.trans (.takeBuffer _ .b)).trans (.takeBuffer _ .c)).trans (.takeBuffer _ .d)

theorem State.Runs.engineFrame (s : State) (src : FrameSource) : s.Runs (s.engineFrame src) := by
  have hevents := ((State.Runs.frameStart s).trans (.track _ src)).trans (.automate _)
  have hmoves := (hevents.change .ramps).trans (.advancePunches _)
  exact (hmoves.trans (.computeFrame _ src)).trans (.sweepVisits _)

/-! ### The framer -/

theorem State.Runs.withFramer (s : State) (fr : Framer) : s.Runs { s with framer := fr } :=
  (State.Change.outside s.clock s.tracker fr s.commands s.responses s.heldOld s.heldNew s.sent s.pending).runs

theorem State.Runs.withCommands (s : State) (cm : List Message) : s.Runs { s with commands := cm } :=
  (State.Change.outside s.clock s.tracker s.framer cm s.responses s.heldOld s.heldNew s.sent s.pending).runs

theorem State.Runs.joinMessage (s : State) (m : Message) : s.Runs (s.joinMessage m) :=
  .ite _ (fun _ => .withCommands s _) (fun _ => .addCount_setItem s droppedCount .dropped)

theorem State.Runs.hunted (s : State) (n : Fin 84) (i : Item) :
    s.Runs { s with framer := .hunt, report := (s.report.addCount n).setItem i } :=
  (State.Runs.addCount_setItem s n i).trans (.withFramer _ .hunt)

theorem State.Runs.frameOctet (s : State) (o : Octet) : s.Runs (s.frameOctet o) := by
  unfold State.frameOctet
  split
  · exact .ite _ (fun _ => .withFramer s _) (fun _ => .refl s)
  · exact .ite _ (fun _ => .hunted s runtCount .runt) fun _ =>
      .ite _ (fun _ => .hunted s longCount .long) fun _ => .withFramer s _
  · exact .withFramer s _

theorem State.Runs.judge (s : State) : s.Runs s.judge.1 := by
  unfold State.judge
  split
  · exact .refl s
  · split
    · next m _ => exact (State.Runs.withFramer s .hunt).trans (.joinMessage _ m)
    · exact .hunted s badCheckCount .check

theorem State.Runs.frameOctets (n : Nat) (l : List Octet) (s : State) : s.Runs (State.frameOctets n l s) := by
  induction n generalizing l s with
  | zero => exact .refl s
  | succ n ih =>
    cases l with
    | nil => exact .refl s
    | cons o rest => exact ((State.Runs.frameOctet s o).trans (.judge _)).trans (ih _ _)

theorem State.Runs.readLane (s : State) (l : Link) (w : List Octet) : s.Runs (s.readLane l w) :=
  .ite _ (fun _ => .frameOctets _ _ s) (fun _ => .refl s)

theorem State.Runs.frameBreak (s : State) : s.Runs s.frameBreak := by
  unfold State.frameBreak
  split
  · exact .refl s
  · exact .hunted s badCheckCount .check
  · exact .hunted s badCheckCount .check

theorem State.Runs.breakLane (s : State) (l : Link) (was : LinkState) : s.Runs (s.breakLane l was) :=
  .ite _ (fun _ => .frameBreak s) (fun _ => .refl s)

/-! ### The receivers -/

theorem State.Runs.withClock (s : State) (ck : Clock) : s.Runs { s with clock := ck } :=
  (State.Change.outside ck s.tracker s.framer s.commands s.responses s.heldOld s.heldNew s.sent s.pending).runs

theorem State.Runs.lock (s : State) (v : Bool) : s.Runs (s.lock v) :=
  (State.Runs.withClock s (s.lock v).clock).trans (.setItem _ .clock)

theorem State.Runs.unlock (s : State) : s.Runs s.unlock :=
  ((State.Runs.withClock s s.unlock.clock).trans (.withTracker _ s.unlock.tracker)).trans (.setItem _ .clock)

theorem State.Runs.linkMoved (s : State) (l : Link) (x : Receiver) : s.Runs (s.linkMoved l x) :=
  (State.Runs.setItem s (.link l)).change (.relinked (s.links.set (linkIdx l) x))

theorem State.Runs.moveLink (s : State) (l : Link) (st : LinkState) (via : Option BufFrame) :
    s.Runs (s.moveLink l st via) := by
  by_cases h : (s.link l).state = st
  · rw [State.moveLink_self _ _ _ _ h]
    exact .refl s
  · have hmoved := State.Runs.linkMoved s l (s.movedTo l st via)
    rcases s.moveLink_cases l st via h with ⟨_, e⟩ | ⟨_, _, e⟩ | ⟨_, _, _, e⟩
    · rw [e]
      exact hmoved
    · rw [e]
      exact hmoved.trans (.lock _ _)
    · rw [e]
      exact hmoved.trans (.unlock _)

theorem State.Runs.loseLink (s : State) (l : Link) : s.Runs (s.loseLink l) := by
  unfold State.loseLink
  exact (State.Runs.setLink s l _ (by rfl)).trans (.moveLink _ _ _ _)

theorem State.Runs.beginSensing (s : State) (l : Link) (f : LinkFrame) : s.Runs (s.beginSensing l f) := by
  unfold State.beginSensing
  exact (State.Runs.setLink s l _ (by rfl)).trans (.moveLink _ _ _ _)

theorem State.Runs.classify (s : State) (l : Link) (via : BufFrame) : s.Runs (s.classify l via) := by
  unfold State.classify
  split
  · exact .refl s
  · exact .moveLink s _ _ _

theorem State.Runs.senseFrame (s : State) (l : Link) (f : LinkFrame) : s.Runs (s.senseFrame l f) := by
  unfold State.senseFrame
  dsimp only
  generalize (if 1 ≤ (s.link l).run ∧ (s.link l).ann = some f.ann then (s.link l).run + 1 else 1) = run
  have hset := State.Runs.setLink s l { s.link l with ann := some f.ann, run := run, badRun := 0, lastGood := f.samples } rfl
  exact .ite _ (fun _ => hset.trans (.classify _ _ _)) (fun _ => hset)

theorem State.Runs.joinBuffer (s : State) (l : Link) (f : BufFrame) : s.Runs (s.joinBuffer l f) :=
  (State.Runs.setLink s l { s.link l with buf := (s.link l).buf.join f } rfl).trans
    (.reportIf (s.setLink l _) _ _ (.addSlip _ l))

theorem State.Runs.receive (s : State) (l : Link) (f : LinkFrame) : s.Runs (s.receive l f) := by
  have hkeep : s.Runs (s.keepFrame l f) := .setLink s l _ rfl
  unfold State.receive
  split
  · exact .beginSensing s l f
  · exact .senseFrame s l f
  · exact .ite _ (fun _ => .ite _ (fun _ => hkeep) fun _ => hkeep.trans (.joinBuffer _ l _)) fun _ => .beginSensing s l f
  · exact .ite _ (fun _ => hkeep) fun _ => .beginSensing s l f

theorem State.Runs.failQuiet (s : State) (l : Link) (run : Nat) : s.Runs (s.failQuiet l run) :=
  .ite _ (fun _ => .loseLink s l) (fun _ => .setLink s l _ rfl)

theorem State.Runs.repeatFrame (s : State) (l : Link) : s.Runs (s.repeatFrame l) := by
  have hcount := State.Runs.addCount s (repeatsOf l)
  exact .ite _ (fun _ => hcount) (fun _ => hcount.trans (.joinBuffer _ l _))

theorem State.Runs.failAccepted (s : State) (l : Link) (bad : Bool) : s.Runs (s.failAccepted l bad) := by
  have hcount : s.Runs (if bad then s.addCount (badFramesOf l) else s) := .ite _ (fun _ => .addCount s _) (fun _ => .refl s)
  have hlink : (if bad then s.addCount (badFramesOf l) else s).link l = s.link l := by split <;> rfl
  refine .ite _ (fun _ => hcount.trans (.loseLink _ l)) (fun _ => ?_)
  exact (hcount.trans (.setLink _ l _ (by rw [hlink]))).trans (.repeatFrame _ l)

theorem State.Runs.failFrame (s : State) (l : Link) (bad : Bool) : s.Runs (s.failFrame l bad) := by
  unfold State.failFrame
  split
  · exact .refl s
  · exact .failQuiet s l _
  · exact .failAccepted s l bad
  · exact .failQuiet s l _

theorem State.Runs.noteArrival (s : State) (l : Link) (before : ClockState) (dt : Nat) :
    s.Runs (s.noteArrival l before dt) :=
  .ite _ (fun _ => .withClock s _) (fun _ => .refl s)

theorem State.Runs.noteMissed (s : State) (l : Link) : s.Runs (s.noteMissed l) :=
  .ite _ (fun _ => .withClock s _) (fun _ => .refl s)

theorem State.Runs.reclassify (s : State) (w : List Nat) (l : Link) : s.Runs (s.reclassify w l) := by
  unfold State.reclassify
  split
  · exact .refl s
  · exact .ite _ (fun _ => .moveLink s _ _ _) (fun _ => .refl s)

end Sys2Proof.Machine
end

section
namespace Sys2Proof.Machine

/-! ### Codes of records and events (R56, R136) -/

theorem inGainRange_clampCode (x : Int) : inGainRange (clampCode x) := by
  unfold clampCode clampInt inGainRange
  split
  · omega
  · split <;> omega

/-- A move that a record spells carries a clamped code (R136, R138). -/
theorem codeOk_of_readMove {kind i1 i2 hi lo last : Octet} {m : Move} (h : readMove kind i1 i2 hi lo last = some m) :
    m.codeOk := by
  have hcode := inGainRange_clampCode (signed16 hi lo)
  unfold readMove at h
  dsimp only at h
  split at h <;> simp only [Option.bind_eq_bind, Option.bind_eq_some_iff, Option.some.injEq, reduceCtorEq] at h
  · obtain ⟨_, _, _, _, _, _, rfl⟩ := h
    exact hcode
  · obtain ⟨_, _, _, _, rfl⟩ := h
    exact hcode
  · obtain ⟨_, _, _, _, rfl⟩ := h
    exact hcode
  · obtain ⟨_, _, _, _, rfl⟩ := h
    exact hcode
  · obtain ⟨_, _, _, _, rfl⟩ := h
    trivial
  · obtain ⟨_, _, _, _, rfl⟩ := h
    trivial
  · obtain ⟨_, _, rfl⟩ := h
    trivial
  · obtain ⟨_, _, rfl⟩ := h
    trivial

theorem codeOk_of_readEvent {o : List Octet} {e : AutoEvent} (h : readEvent o = some e) : e.move.codeOk := by
  obtain ⟨m, hm, rfl⟩ := Option.map_eq_some_iff.1 h
  exact codeOk_of_readMove hm

/-! ### Table writes (R164 to R166) -/

/-- The write, when it is not refused, leaves a state that has the property. -/
abbrev Written.Leaves (R : State → Prop) (w : Written) : Prop := w.Ends (fun _ => True) R

theorem State.Runs.putSource (s : State) (i : Fin 192) (f : SourceFields) (hf : inGainRange f.code) :
    s.Runs (s.putSource i f) := by
  have htrim := State.Change.chan (s := s) i
    { s.chans[i] with
      trim := s.chans[i].trim.aim f.code (rampLen f.cls), group := f.group, polarity := f.polarity, cls := f.cls }
    (.inr ⟨f.code, _, fun _ => hf, rfl⟩) rfl rfl
  have hmute := State.Change.opMute (s := s.setChan i
    { s.chans[i] with
      trim := s.chans[i].trim.aim f.code (rampLen f.cls), group := f.group, polarity := f.polarity, cls := f.cls }) i f.mute
  have hrun := htrim.runs.change hmute
  simpa [State.setChan, State.putSource, State.muted] using hrun

theorem State.Runs.putBus (s : State) (i : Fin 64) (f : BusFields) (hf : inGainRange f.code) : s.Runs (s.putBus i f) := by
  have hlevel := State.Change.bus (s := s) i
    { s.buses[i] with tier := f.tier, level := s.buses[i].level.aim f.code (rampLen f.cls), cls := f.cls }
    (.inr ⟨f.code, _, fun _ => hf, rfl⟩) rfl rfl
  have hmute := State.Change.busMute (s := s.setBus i
    { s.buses[i] with tier := f.tier, level := s.buses[i].level.aim f.code (rampLen f.cls), cls := f.cls }) i f.mute
  have hrun := hlevel.runs.change hmute
  simpa [State.setBus, State.putBus] using hrun

theorem State.Runs.putSlot (s : State) (i : Fin 128) (a b c d : Nat) : (s.putSlot i a b c d).Leaves s.Runs :=
  .ranged trivial fun _ _ => .ranged trivial fun _ _ => .ok (State.Change.egress _).runs

theorem code_of_sourceFields? {o : List Octet} {f : SourceFields} (h : sourceFields? o = some f) : inGainRange f.code := by
  unfold sourceFields? at h
  simp only [Option.bind_eq_bind, Option.bind_eq_some_iff, Option.some.injEq] at h
  obtain ⟨_, _, _, _, _, _, _, _, rfl⟩ := h
  exact inGainRange_clampCode _

theorem code_of_busFields? {o : List Octet} {f : BusFields} (h : busFields? o = some f) : inGainRange f.code := by
  unfold busFields? at h
  simp only [Option.bind_eq_bind, Option.bind_eq_some_iff, Option.some.injEq] at h
  obtain ⟨_, _, _, _, _, _, rfl⟩ := h
  exact inGainRange_clampCode _

theorem ok_of_acceptFields? {o : List Octet} {a : AcceptRec} (h : acceptFields? o = some a) : a.ok := by
  unfold acceptFields? at h
  simp only [Option.bind_eq_bind, Option.bind_eq_some_iff] at h
  obtain ⟨_, _, h⟩ := h
  split at h
  · next hr =>
    cases h
    exact hr
  · exact nomatch h

theorem ok_of_windowFields? {o : List Octet} {w : Window} (h : windowFields? o = some w) : w.ok := by
  unfold windowFields? at h
  simp only [Option.bind_eq_bind, Option.bind_eq_some_iff] at h
  obtain ⟨_, _, h⟩ := h
  split at h
  · next hr =>
    cases h
    exact ⟨hr.1, hr.2.1, hr.2.2.2⟩
  · exact nomatch h

theorem State.Runs.writeGroup (s : State) (idx : Nat) (o : List Octet) : (s.writeGroup idx o).Leaves s.Runs :=
  .ranged trivial fun _ _ => .ranged trivial fun _ _ =>
    .ok (State.Change.group _ _ (.inr ⟨_, _, fun _ => inGainRange_clampCode _, rfl⟩)).runs

/-- A record of a space other than INGRESS is written by a run. -/
theorem State.Runs.writeRecord (s : State) (space : Fin 8) (hs : space ≠ 4) (idx : Nat) (o : List Octet) :
    (s.writeRecord space idx o).Leaves s.Runs := by
  unfold State.writeRecord
  split
  · exact .ranged trivial fun i _ => .ranged trivial fun f hf => .ok (.putSource s i f (code_of_sourceFields? hf))
  · exact .ranged trivial fun i _ => .ranged trivial fun f hf =>
      .ite (fun _ => .ok (.putBus s i f (code_of_busFields? hf))) fun _ => .error trivial
  · exact State.Runs.writeGroup s idx o
  · exact .ranged trivial fun i _ => .ranged trivial fun a ha => .ok (State.Change.accept i a (ok_of_acceptFields? ha)).runs
  · next h => exact absurd (Fin.ext h) hs
  · exact .ranged trivial fun i _ => .ite (fun _ => .error trivial) fun _ => State.Runs.putSlot s i _ _ _ _
  · exact .ranged trivial fun i _ => .ranged trivial fun n _ => .ok (.quietReport s _ rfl)
  · exact .ranged trivial fun i _ => .ranged trivial fun c _ => .ok (.quietReport s _ rfl)

theorem State.Runs.writeRecords (space : Fin 8) (hs : space ≠ 4) (idx : Nat) (recs : List (List Octet)) (s : State) :
    s.Runs (State.writeRecords space idx recs s).state := by
  induction recs generalizing idx s with
  | nil => exact .refl s
  | cons o rest ih =>
    unfold State.writeRecords
    split
    · exact .refl s
    · next s1 h1 => exact ((State.Runs.writeRecord s space hs idx o).2 s1 h1).trans (ih _ _)

/-- A window in range that shares no channel with another keeps the table whole (R40, R41). -/
theorem IngressOk.set {s : State} (h : IngressOk s.ingress) {k : Fin 16} {w : Window} (hw : w.ok)
    (hf : s.windowFree k w = true) : IngressOk (s.ingress.set k w) := by
  have hget : ∀ v : Fin 16, (s.ingress.set k w)[v] = if v = k then w else s.ingress[v] := fun v => by
    by_cases e : v = k
    · subst e
      simp
    · have hv : k.val ≠ v.val := fun e' => e (Fin.ext e'.symm)
      simp [e, hv]
  have hfree := (s.windowFree_iff k w).1 hf
  refine ⟨fun v => ?_, fun v u hvu i => ?_⟩
  · rw [hget]
    split
    · exact hw
    · exact h.1 v
  · rw [hget, hget]
    split
    · next e =>
      rw [if_neg fun e' => hvu (e.trans e'.symm)]
      exact fun hb => hfree u (fun e' => hvu (e.trans e'.symm)) i.val hb.symm
    · next e =>
      split
      · exact hfree v e i.val
      · exact h.2 v u hvu i

/-- Records of INGRESS change the windows alone, and keep them whole. -/
theorem State.writeRecords_windows (idx : Nat) (recs : List (List Octet)) (s : State) :
    ∃ g, (IngressOk s.ingress → IngressOk g) ∧ (State.writeRecords 4 idx recs s).state = { s with ingress := g } := by
  have one : ∀ (idx : Nat) (o : List Octet) (s : State), (s.writeRecord 4 idx o).Leaves fun t =>
      ∃ g, (IngressOk s.ingress → IngressOk g) ∧ t = { s with ingress := g } := fun idx o s =>
    .ranged trivial fun k _ => .ranged trivial fun w hw =>
      .ite (fun hf => .ok ⟨_, fun h => h.set (ok_of_windowFields? hw) hf, rfl⟩) fun _ => .error trivial
  induction recs generalizing idx s with
  | nil => exact ⟨s.ingress, id, rfl⟩
  | cons o rest ih =>
    unfold State.writeRecords
    split
    · exact ⟨s.ingress, id, rfl⟩
    · next s1 h1 =>
      obtain ⟨g1, hg1, rfl⟩ := (one idx o s).2 s1 h1
      obtain ⟨g, hg, h⟩ := ih (idx + 1) { s with ingress := g1 }
      exact ⟨g, hg ∘ hg1, h⟩

theorem State.Runs.doWriteTable (p : List Octet) (s : State) : s.Runs (doWriteTable p s).state := by
  unfold Machine.doWriteTable
  split
  · exact .refl s
  · split
    · exact .refl s
    · next space _ =>
      dsimp only
      split
      · exact .refl s
      · dsimp only [Reply.counted]
        rw [State.afterWrite_eq]
        by_cases h4 : space = 4
        · subst h4
          obtain ⟨g, hg, h⟩ := State.writeRecords_windows (p.getD 1 0).toNat (records (recordSize 4) (p.drop 2)) s
          rw [if_neg (by decide), if_pos rfl, h]
          exact (State.Change.ingress g hg).runs
        · have hrecs := State.Runs.writeRecords space h4 (p.getD 1 0).toNat (records (recordSize space) (p.drop 2)) s
          rw [if_neg h4]
          refine .ite _ (fun _ => ?_) fun _ => hrecs
          exact (((hrecs.trans (.reclassify _ _ .a)).trans (.reclassify _ _ .b)).trans (.reclassify _ _ .c)).trans
            (.reclassify _ _ .d)

theorem State.Runs.writeSourceField (s : State) (idx field : Nat) (v : Int) :
    (s.writeSourceField idx field v).Leaves s.Runs := by
  refine .ranged trivial fun i _ => ?_
  have other : ∀ c : Chan, c.trim = s.chans[i].trim → c.mute = s.chans[i].mute → c.opMute = s.chans[i].opMute →
      s.Runs (s.setChan i c) := fun c ht hm ho => (State.Change.chan i c (.inl ht) hm ho).runs
  split
  · exact .ok (State.Change.chan i { s.chans[i] with trim := s.chans[i].trim.aim (clampCode v) (rampLen s.chans[i].cls) }
      (.inr ⟨clampCode v, _, fun _ => inGainRange_clampCode v, rfl⟩) rfl rfl).runs
  · exact .ranged trivial fun g _ => .ok (other { s.chans[i] with group := g } rfl rfl rfl)
  · exact .ranged trivial fun p _ => .ok (other { s.chans[i] with polarity := p } rfl rfl rfl)
  · exact .ranged trivial fun m _ => .ok (State.Change.opMute i m).runs
  · exact .ranged trivial fun n _ => .ok (other { s.chans[i] with cls := n } rfl rfl rfl)
  · exact .error trivial

theorem State.Runs.writeBusField (s : State) (idx field : Nat) (v : Int) : (s.writeBusField idx field v).Leaves s.Runs := by
  refine .ranged trivial fun i _ => ?_
  split
  · exact .ranged trivial fun t _ => .ite
      (fun _ => .ok (State.Change.bus i { s.buses[i] with tier := t } (.inl rfl) rfl rfl).runs) fun _ => .error trivial
  · exact .ok (State.Change.bus i { s.buses[i] with level := s.buses[i].level.aim (clampCode v) (rampLen s.buses[i].cls) }
      (.inr ⟨clampCode v, _, fun _ => inGainRange_clampCode v, rfl⟩) rfl rfl).runs
  · exact .ranged trivial fun m _ => .ok (State.Change.busMute i m).runs
  · exact .ranged trivial fun n _ => .ok (State.Change.bus i { s.buses[i] with cls := n } (.inl rfl) rfl rfl).runs
  · exact .error trivial

theorem State.Runs.writeGroupField (s : State) (idx field : Nat) (v : Int) :
    (s.writeGroupField idx field v).Leaves s.Runs := by
  refine .ranged trivial fun i _ => ?_
  split
  · exact .ok (State.Change.group i { s.groups[i] with trim := s.groups[i].trim.aim (clampCode v) (rampLen s.groups[i].cls) }
      (.inr ⟨clampCode v, _, fun _ => inGainRange_clampCode v, rfl⟩)).runs
  · exact .ranged trivial fun n _ => .ok (State.Change.group i { s.groups[i] with cls := n } (.inl rfl)).runs
  · exact .error trivial

theorem State.Runs.writeEgressField (s : State) (idx field : Nat) (v : Int) :
    (s.writeEgressField idx field v).Leaves s.Runs := by
  refine .ranged trivial fun i _ => .ite (fun _ => .error trivial) fun _ => .ranged trivial fun n _ => ?_
  dsimp only
  split
  · exact State.Runs.putSlot s i _ _ _ _
  · exact State.Runs.putSlot s i _ _ _ _
  · exact State.Runs.putSlot s i _ _ _ _
  · exact State.Runs.putSlot s i _ _ _ _
  · exact .error trivial

theorem State.Runs.writeOneField (s : State) (space idx field : Nat) (v : Int) :
    (s.writeOneField space idx field v).Leaves s.Runs := by
  unfold State.writeOneField
  split
  · exact State.Runs.writeSourceField s idx field v
  · exact State.Runs.writeBusField s idx field v
  · exact State.Runs.writeGroupField s idx field v
  · exact State.Runs.writeEgressField s idx field v
  · exact .ite (fun _ => .error trivial) fun _ => .error trivial

theorem State.Runs.doWriteField (p : List Octet) (s : State) : s.Runs (doWriteField p s).state := by
  unfold Machine.doWriteField
  split
  · exact .refl s
  · next s1 h1 => exact (State.Runs.writeOneField _ _ _ _ _).2 s1 h1

/-! ### The other commands -/

theorem WindowOk.corner {w : MatrixWindow} (hr : w.firstRow ≤ w.lastRow) (hc : w.firstCol ≤ w.lastCol)
    (hrow : w.row = w.firstRow ∨ w.row = w.lastRow) (hcol : w.col = w.firstCol ∨ w.col = w.lastCol) : WindowOk w := by
  unfold WindowOk
  rcases hrow with e | e <;> rcases hcol with e' | e' <;> rw [e, e']
  · exact ⟨le_refl _, hr, le_refl _, hc⟩
  · exact ⟨le_refl _, hr, hc, le_refl _⟩
  · exact ⟨hr, le_refl _, le_refl _, hc⟩
  · exact ⟨hr, le_refl _, hc, le_refl _⟩

/-- SET_WINDOW places the counter at a corner of a window in order (R86, R87). -/
theorem windowOk_of_windowOf? {p : List Octet} {w : MatrixWindow} (h : windowOf? p = some w) : WindowOk w := by
  unfold windowOf? at h
  simp only [Option.bind_eq_bind, Option.bind_eq_some_iff] at h
  obtain ⟨r0, _, r1, _, c0, _, c1, _, o, _, rd, _, cd, _, h⟩ := h
  split at h
  · next hr =>
    cases h
    refine WindowOk.corner hr.1 hr.2 ?_ ?_
    · cases rd
      · exact .inl rfl
      · exact .inr rfl
    · cases cd
      · exact .inl rfl
      · exact .inr rfl
  · exact nomatch h

theorem State.Runs.gainCells (n : Fin 8) (l : List Int) (s : State) : s.Runs (State.gainCells n l s).1 := by
  have cell : ∀ (s : State) (code : Int), s.Runs (s.gainCell n code) := fun s code =>
    (State.Runs.ite _ (fun _ => .refl s) fun _ => .writeXp s _ _ _ _ fun _ => inGainRange_clampCode code).change .windowStep
  induction l generalizing s with
  | nil => exact .refl s
  | cons code rest ih => exact (cell s code).trans (ih _)

theorem State.Runs.readCells (n : Nat) (s : State) : s.Runs (State.readCells n s).1 := by
  induction n generalizing s with
  | zero => exact .refl s
  | succ n ih => exact (State.Change.windowStep (s := s)).runs.trans (ih _)

theorem State.Runs.takeEvents (l : List (List Octet)) (n : Nat) (s : State) : s.Runs (State.takeEvents l n s).state := by
  induction l generalizing n s with
  | nil => exact .refl s
  | cons o rest ih =>
    unfold State.takeEvents
    split
    · exact .refl s
    · next e he =>
      have hcode := codeOk_of_readEvent he
      split
      · have hlate : s.Runs (s.applyLate e) :=
          (State.Runs.applyMove s e.move fun _ => hcode).trans (.addCount_setItem _ lateCount .late)
        exact hlate.trans (ih _ _)
      · split
        · next hroom => exact (State.Change.queued e hroom hcode).runs.trans (ih _ _)
        · exact .refl s

theorem State.Runs.punchRun (s : State) (first count : Nat) (into : Bool) : s.Runs (s.punchRun first count into) := by
  refine .foldl (fun s j => ?_) _ s
  split
  · exact .ite _ (fun _ => .punchRequest s _ into) fun _ => .refl s
  · exact .refl s

theorem Report.zeroCounters_le (r : Report) (first count : Nat) (n : Fin 84) :
    (r.zeroCounters first count).counters[n] ≤ r.counters[n] := by
  simp only [Report.zeroCounters, Fin.getElem_fin, Vector.getElem_ofFn]
  split
  · exact Nat.zero_le _
  · exact Nat.le_refl _

/-- Every command is a run of elementary changes. -/
theorem State.Runs.doCommand (k : Nat) (p : List Octet) (s : State) : s.Runs (doCommand k p s).state := by
  have same := State.Runs.refl s
  unfold Machine.doCommand
  split
  · exact same
  · unfold doReadTable
    split
    · exact same
    · dsimp only
      split <;> exact same
  · exact .doWriteTable p s
  · exact .doWriteField p s
  · unfold doSetWindow
    split
    · exact same
    · next w hw => exact (State.Change.window w (windowOk_of_windowOf? hw)).runs
  · unfold doWriteGains
    split
    · exact same
    · split
      · exact same
      · exact .gainCells _ _ s
  · unfold doReadGains
    dsimp only
    split
    · exact .readCells _ s
    · exact same
  · unfold doMatrixClear
    split
    · exact same
    · split
      · exact same
      · exact (State.Change.sweepBegun _).runs
  · exact .takeEvents _ _ s
  · exact (State.Runs.flush s).trans (.judgeLow _ _)
  · unfold doPunch
    dsimp only
    split
    · exact same
    · split
      · exact same
      · exact .punchRun s _ _ _
  · exact .quietReport s _ rfl
  · unfold doClearFlags
    split
    · exact same
    · exact .quietReport s _ rfl
  · unfold doTestAndClear
    split
    · exact same
    · exact .quietReport s _ rfl
  · unfold doReadCounters
    dsimp only
    split
    · split
      · exact same
      · exact .ite _ (fun _ => (State.Change.report _ (Report.zeroCounters_le _ _ _)).runs) fun _ => same
    · exact same
  · exact State.Change.engineReset.runs
  · exact same

theorem State.Runs.execute (s : State) (m : Message) : s.Runs (s.execute m) := by
  have hrun : s.Runs (runMessage m s).state := by
    unfold runMessage
    split
    · exact .refl s
    · split
      · exact .refl s
      · exact .doCommand _ _ s
  exact hrun.change (.outside _ _ _ _ _ _ _ _ _)

theorem State.Runs.takeMessage (s : State) : s.Runs s.takeMessage := by
  unfold State.takeMessage
  split
  · exact .refl s
  · next m rest _ => exact .ite _ (fun _ => (State.Runs.withCommands s rest).trans (.execute _ m)) fun _ => .refl s

theorem State.Runs.takeMessages (n : Nat) (s : State) : s.Runs (State.takeMessages n s) :=
  State.takeMessages_keeps (P := s.Runs) (fun t h => h.trans (.takeMessage t)) n s (.refl s)

theorem State.Runs.withPending (s : State) (pe : List Instr) : s.Runs { s with pending := pe } :=
  (State.Change.outside s.clock s.tracker s.framer s.commands s.responses s.heldOld s.heldNew s.sent pe).runs

theorem State.Runs.submit (s : State) (m : Message) : s.Runs (s.submit m) :=
  (State.Runs.joinMessage s m).trans (.takeMessages _ _)

/-! ### The rows of the table -/

theorem State.Runs.endEvent (s : State) (l : Link) (n : Nat) (src : FrameSource) : s.Runs (s.endEvent l n src) :=
  State.endEvent_keeps (P := s.Runs) src (fun t h => h.trans (.takeMessage t)) (fun t _ h => h.trans (.engineFrame t src))
    s l n (.refl s)

theorem State.Runs.periodEvent (s : State) : s.Runs s.periodEvent :=
  State.periodEvent_keeps (P := s.Runs) (fun t h => h.trans (.takeMessage t))
    (fun t _ h => h.trans (.engineFrame t .oscillator)) s (.refl s)

theorem State.Runs.passEvent (s : State) (l : Link) (f : LinkFrame) (dt late : Nat) : s.Runs (s.passEvent l f dt late) :=
  (((State.Runs.receive s l f).trans (.noteArrival _ l _ dt)).trans (.readLane _ l _)).trans (.endEvent _ l _ _)

theorem State.Runs.badEvent (s : State) (l : Link) (dt : Nat) : s.Runs (s.badEvent l dt) :=
  .ite _ (fun _ => .refl s) fun _ =>
    (((State.Runs.failFrame s l true).trans (.noteArrival _ l _ dt)).trans (.breakLane _ l _)).trans (.endEvent _ l _ _)

theorem State.Runs.missingEvent (s : State) (l : Link) : s.Runs (s.missingEvent l) :=
  .ite _ (fun _ => .refl s) fun _ =>
    (((State.Runs.failFrame s l false).trans (.noteMissed _ l)).trans (.breakLane _ l _)).trans (.endEvent _ l _ _)

/-- Every row of the table is a run of elementary changes. -/
theorem State.Runs.exec {s t : State} (c : Instr) (h : exec c s = .next t) : s.Runs t := by
  cases c with
  | passingFrame l o dt n =>
    rw [Machine.exec, execPassingFrame] at h
    split at h
    · cases h
      exact (State.Runs.takeMessages _ s).trans (.passEvent _ l _ dt _)
    · cases h
      exact (State.Runs.takeMessages _ s).trans (.badEvent _ l dt)
  | badFrame l dt =>
    cases h
    exact .badEvent s l dt
  | missingFrame l =>
    cases h
    exact .missingEvent s l
  | oscillatorPeriod =>
    cases h
    exact .periodEvent s
  | startUpReset =>
    cases h
    exact (State.Change.startUp (s := s)).runs.trans (.withPending State.reset s.pending)
  | rampCompletion r c =>
    rw [Machine.exec, execRampCompletion] at h
    split at h
    · next e he =>
      cases h
      exact .ite _ (fun _ => (State.Change.completed e (Matrix.entry_some he).1).runs) fun _ => .refl s
    · cases h
      exact .refl s
  | punchArrival i =>
    cases h
    exact .ite _ (fun _ => .advanceSlot s i) fun _ => .refl s
  | sweepCompletion =>
    cases h
    exact .ite _ (fun _ => .sweepVisits s) fun _ => .refl s
  | coalescingTimerExpiry =>
    rw [Machine.exec, execCoalescingTimerExpiry] at h
    split at h
    · cases h
      exact .ite _ (fun _ => .quietReport s _ (Report.lowerTimer_same _).2) fun _ => .refl s
    · cases h
      exact .refl s
  | noticeComposition =>
    cases h
    exact .quietReport s _ (Report.composeIfDue_same _).2
  | _ =>
    cases h
    exact .submit s _

/-- Every step is a run of elementary changes. -/
theorem State.Runs.step {s t : State} (h : step s = .next t) : s.Runs t := by
  unfold Machine.step at h
  split at h
  · cases h
    exact .takeMessage s
  · next c rest _ =>
    exact (State.Runs.withPending s rest).trans (.exec c h)

/-- What every elementary change keeps, every step keeps. -/
theorem step_keeps {P : State → Prop} (hP : ∀ s t : State, s.Change t → P s → P t) {s t : State} (hs : P s)
    (h : step s = .next t) : P t := (State.Runs.step h).keeps hP hs

end Sys2Proof.Machine
end

section
namespace Sys2Proof.Machine

/-! ### The stored queue, counters, tables, window and sweep -/

theorem insertEvent_sorted (e : AutoEvent) (l : List AutoEvent) (h : l.Pairwise fun a b => a.due ≤ b.due) :
    (insertEvent e l).Pairwise fun a b => a.due ≤ b.due := by
  induction l with
  | nil => exact List.pairwise_singleton _ _
  | cons f rest ih =>
    obtain ⟨hf, hrest⟩ := List.pairwise_cons.1 h
    unfold insertEvent
    split
    · next hle =>
      refine List.pairwise_cons.2 ⟨fun x hx => ?_, ih hrest⟩
      rcases (mem_insertEvent e x rest).1 hx with rfl | hx
      · exact hle
      · exact hf x hx
    · next hlt =>
      have hef : e.due ≤ f.due := BitVec.le_of_lt (BitVec.not_le.1 hlt)
      refine List.pairwise_cons.2 ⟨fun x hx => ?_, h⟩
      rcases List.mem_cons.1 hx with rfl | hx
      · exact hef
      · exact BitVec.le_trans hef (hf x hx)

/-- R137: the queue grows by one event in its place, loses events at its head, and is emptied. -/
theorem QueueOk.change (s t : State) (h : s.Change t) (hs : QueueOk s) : QueueOk t := by
  cases h with
  | queued e hroom _ =>
    refine ⟨?_, insertEvent_sorted e _ hs.2⟩
    rw [insertEvent_length]
    exact hroom
  | unqueued q hq => exact ⟨hq.length_le.trans hs.1, hs.2.sublist hq.sublist⟩
  | engineReset => exact ⟨Nat.zero_le _, List.Pairwise.nil⟩
  | startUp => exact ⟨Nat.zero_le _, List.Pairwise.nil⟩
  | _ => exact hs

theorem CountersOk.addCount {s : State} (hs : CountersOk s) (n : Fin 84) : CountersOk (s.addCount n) := by
  intro m
  change (s.report.addCount n).counters[m] ≤ 65535
  rw [Report.addCount_counters]
  split
  · exact hs m
  · next hlt =>
    by_cases e : n.val = m.val
    · obtain rfl := Fin.ext e
      simp only [Fin.getElem_fin, Vector.getElem_set_self] at hlt ⊢
      omega
    · rw [Fin.getElem_fin, Vector.getElem_set_ne _ _ e]
      exact hs m

/-- R183: a counter goes up by additions alone, which stop at 65,535. -/
theorem CountersOk.change (s t : State) (h : s.Change t) (hs : CountersOk s) : CountersOk t := by
  cases h with
  | report rp hle => exact fun n => (hle n).trans (hs n)
  | counted n => exact hs.addCount n
  | engineReset =>
    intro n
    have hzero : s.engineReset.report.counters = Vector.replicate 84 0 := Report.setItem_counters _ _
    rw [hzero]
    simp
  | startUp => exact fun n => (Report.reset_counters n).trans_le (Nat.zero_le _)
  | _ => exact hs

theorem tablesOk_iff (s : State) : TablesOk s ↔ (∀ a : Fin 16, s.accept[a].ok) ∧ IngressOk s.ingress :=
  Iff.rfl

/-- What holds of every element of a vector and of the one written holds of every element after the write. -/
theorem forall_getElem_set {α : Type} {n : Nat} {P : α → Prop} {v : Vector α n} (h : ∀ j : Fin n, P v[j]) (i : Fin n)
    {x : α} (hx : P x) (j : Fin n) : P (v.set i x)[j] := by
  by_cases e : i.val = j.val
  · obtain rfl := Fin.ext e
    simpa using hx
  · rw [Fin.getElem_fin, Vector.getElem_set_ne _ _ e]
    exact h j

/-- R32, R38, R41: acceptance entries and windows are written in range, and no window over another. -/
theorem TablesOk.change (s t : State) (h : s.Change t) (hs : TablesOk s) : TablesOk t := by
  obtain ⟨haccept, hingress⟩ := (tablesOk_iff s).1 hs
  cases h with
  | accept k a ha => exact ⟨forall_getElem_set (P := AcceptRec.ok) haccept k ha, hingress⟩
  | ingress g hg => exact ⟨haccept, hg hingress⟩
  | startUp => exact TablesOk.reset
  | engineReset =>
    rw [tablesOk_iff, State.engineReset_accept, State.engineReset_ingress]
    exact hs
  | _ => exact hs

theorem stepIn_up (n : Nat) (x : Fin (n + 1)) (last : Fin (n + 1)) (h : x ≤ last) (hne : x ≠ last) :
    x ≤ stepIn n .up x ∧ stepIn n .up x ≤ last := by
  have hlt : x < last := lt_of_le_of_ne h hne
  have hx : x.val + 1 < n + 1 := Nat.lt_of_le_of_lt (Fin.lt_def.1 hlt) last.isLt
  have hval : (x + 1).val = x.val + 1 := Fin.val_add_one_of_lt' hx
  have hup : stepIn n .up x = x + 1 := rfl
  rw [hup]
  constructor
  · rw [Fin.le_def, hval]
    exact Nat.le_succ _
  · rw [Fin.le_def, hval]
    exact Fin.lt_def.1 hlt

theorem stepIn_down (n : Nat) (x : Fin (n + 1)) (first : Fin (n + 1)) (h : first ≤ x) (hne : x ≠ first) :
    first ≤ stepIn n .down x ∧ stepIn n .down x ≤ x := by
  have hlt : first < x := lt_of_le_of_ne h (Ne.symm hne)
  have hpos : x ≠ 0 := fun e => absurd (e ▸ hlt) (Fin.not_lt_zero first)
  have hval : (x - 1).val = x.val - 1 := Fin.val_sub_one_of_ne_zero hpos
  have hdown : stepIn n .down x = x - 1 := rfl
  have hlt' := Fin.lt_def.1 hlt
  rw [hdown]
  constructor <;> rw [Fin.le_def, hval] <;> omega

/-- A step along a row or a column, away from its end, stays between its two ends (R88). -/
theorem stepIn_between (n : Nat) (d : Dir) (x first last : Fin (n + 1)) (h : first ≤ x ∧ x ≤ last)
    (hne : x ≠ if d = .up then last else first) : first ≤ stepIn n d x ∧ stepIn n d x ≤ last := by
  cases d with
  | up =>
    obtain ⟨h1, h2⟩ := stepIn_up n x last h.2 hne
    exact ⟨h.1.trans h1, h2⟩
  | down =>
    obtain ⟨h1, h2⟩ := stepIn_down n x first h.1 hne
    exact ⟨h1, h2.trans h.2⟩

/-- R88: the counter goes on inside the window. -/
theorem WindowOk.next {w : MatrixWindow} (h : WindowOk w) : WindowOk w.next := by
  obtain ⟨hr1, hr2, hc1, hc2⟩ := h
  have hrows : w.firstRow ≤ w.lastRow := hr1.trans hr2
  have hcols : w.firstCol ≤ w.lastCol := hc1.trans hc2
  have startRow : w.firstRow ≤ w.startRow ∧ w.startRow ≤ w.lastRow := by
    unfold MatrixWindow.startRow
    split
    · exact ⟨le_refl _, hrows⟩
    · exact ⟨hrows, le_refl _⟩
  have startCol : w.firstCol ≤ w.startCol ∧ w.startCol ≤ w.lastCol := by
    unfold MatrixWindow.startCol
    split
    · exact ⟨le_refl _, hcols⟩
    · exact ⟨hcols, le_refl _⟩
  have stepRow : w.row ≠ w.endRow → w.firstRow ≤ stepIn 255 w.rowDir w.row ∧ stepIn 255 w.rowDir w.row ≤ w.lastRow :=
    stepIn_between 255 _ _ _ _ ⟨hr1, hr2⟩
  have stepCol : w.col ≠ w.endCol → w.firstCol ≤ stepIn 63 w.colDir w.col ∧ stepIn 63 w.colDir w.col ≤ w.lastCol :=
    stepIn_between 63 _ _ _ _ ⟨hc1, hc2⟩
  unfold MatrixWindow.next
  split
  · split
    · next hne => exact ⟨hr1, hr2, stepCol hne⟩
    · split
      · next hne => exact ⟨(stepRow hne).1, (stepRow hne).2, startCol⟩
      · exact ⟨startRow.1, startRow.2, startCol⟩
  · split
    · next hne => exact ⟨(stepRow hne).1, (stepRow hne).2, hc1, hc2⟩
    · split
      · next hne => exact ⟨startRow.1, startRow.2, stepCol hne⟩
      · exact ⟨startRow.1, startRow.2, startCol⟩

theorem WindowOk.reset : WindowOk MatrixWindow.reset := by
  unfold WindowOk
  decide

theorem WindowOk.change (s t : State) (h : s.Change t) (hs : WindowOk s.window) : WindowOk t.window := by
  cases h with
  | window w hw => exact hw
  | windowStep => exact hs.next
  | engineReset => exact WindowOk.reset
  | startUp => exact WindowOk.reset
  | _ => exact hs

/-- R96: a sweep begins with 128 frames of visits and gives up one frame's at a time. -/
theorem SweepOk.change (s t : State) (h : s.Change t) (hs : SweepOk s) : SweepOk t := by
  cases h with
  | sweepBegun n => exact ⟨by decide, by decide, by decide⟩
  | swept n left hsweep hlt =>
    have hleft : 0 < left ∧ left ≤ 16384 ∧ left % 128 = 0 := by
      unfold SweepOk at hs
      rwa [hsweep] at hs
    change 0 < left - 128 ∧ left - 128 ≤ 16384 ∧ (left - 128) % 128 = 0
    omega
  | sweepEnded => trivial
  | engineReset => trivial
  | startUp => trivial
  | _ => exact hs

/-- Settles O55: every step is a run of elementary changes, and of each the five properties say what it can touch. -/
theorem storedStateKept : Obligations.StoredStateKept :=
  ⟨fun _ _ hs h => step_keeps QueueOk.change hs h, fun _ _ hs h => step_keeps CountersOk.change hs h,
    fun _ _ hs h => step_keeps TablesOk.change hs h,
    fun _ _ hs h => step_keeps (P := fun s => WindowOk s.window) WindowOk.change hs h,
    fun _ _ hs h => step_keeps SweepOk.change hs h⟩

end Sys2Proof.Machine
end

section
namespace Sys2Proof.Machine

/-! ### Ramps stay between their ends (R62) -/

/-- A part k of L of a way is between nothing and the whole way (R62). -/
theorem tdiv_part_between (d : Int) (k len : Nat) (h : k < len) :
    min 0 d ≤ (d * k).tdiv len ∧ (d * k).tdiv len ≤ max 0 d := by
  have forward : ∀ d : Int, 0 ≤ d → 0 ≤ (d * k).tdiv len ∧ (d * k).tdiv len ≤ d := fun d hd => by
    have hk : 0 ≤ d * k := Int.mul_nonneg hd (Int.natCast_nonneg k)
    have hle : d * k ≤ d * len := Int.mul_le_mul_of_nonneg_left (by omega) hd
    rw [Int.tdiv_eq_ediv_of_nonneg hk]
    exact ⟨Int.ediv_nonneg hk (Int.natCast_nonneg len), Int.ediv_le_of_le_mul (by omega) hle⟩
  rcases Int.le_total 0 d with hd | hd
  · obtain ⟨h1, h2⟩ := forward d hd
    omega
  · obtain ⟨h1, h2⟩ := forward (-d) (by omega)
    rw [Int.neg_mul, Int.neg_tdiv] at h1 h2
    omega

theorem Ramp.cur_between (r : Ramp) : min r.start r.target ≤ r.cur ∧ r.cur ≤ max r.start r.target := by
  unfold Ramp.cur
  split
  · omega
  · next h =>
    obtain ⟨h1, h2⟩ := tdiv_part_between (r.target - r.start) r.k r.len (Nat.lt_of_not_le h)
    omega

theorem Ramp.within.cur_gain {r : Ramp} (h : r.within inGainRange) : inGainRange r.cur := by
  obtain ⟨⟨h1, h2⟩, h3, h4⟩ := h
  obtain ⟨h5, h6⟩ := r.cur_between
  exact ⟨by omega, by omega⟩

theorem Ramp.within.cur_mute {r : Ramp} (h : r.within inMuteRange) : inMuteRange r.cur := by
  obtain ⟨⟨h1, h2⟩, h3, h4⟩ := h
  obtain ⟨h5, h6⟩ := r.cur_between
  exact ⟨by omega, by omega⟩

/-- A ramp begun again runs from its current code to the new one, or stands there (R63). -/
theorem Ramp.within.aim {p : Int → Prop} {r : Ramp} (hcur : p r.cur) {t : Int} (ht : p t) (len : Nat) :
    (r.aim t len).within p := by
  unfold Ramp.aim
  split
  · exact ⟨ht, ht⟩
  · exact ⟨hcur, ht⟩

theorem Ramp.within.advance {p : Int → Prop} {r : Ramp} (h : r.within p) : r.advance.within p := by
  unfold Ramp.advance
  split <;> exact h

theorem Ramp.within.settle {p : Int → Prop} {r : Ramp} (h : r.within p) : r.settle.within p := ⟨h.2, h.2⟩

theorem Ramp.within.restarts {s : State} (hq : s.QueueCodes) {r r' : Ramp} (h : r.within inGainRange)
    (hr : s.Restarts r r') : r'.within inGainRange := by
  rcases hr with rfl | ⟨t, len, ht, rfl⟩
  · exact h
  · exact .aim h.cur_gain (ht hq) len

/-! ### Codes of the crosspoints and of the pool (R56, R62) -/

/-- R56: the codes of every crosspoint and of every pool entry are in range. -/
def Matrix.CodesOk (m : Matrix) : Prop :=
  (∀ (r : Fin 256) (c : Fin 64), inGainRange (m.cell r c).cur ∧ inGainRange (m.cell r c).tgt) ∧
    ∀ e ∈ m.pool, e.ramp.within inGainRange

theorem Matrix.CodesOk.setCell {m : Matrix} (h : m.CodesOk) (r : Fin 256) (c : Fin 64) {x : Xp} (hc : inGainRange x.cur)
    (ht : inGainRange x.tgt) : (m.setCell r c x).CodesOk := by
  refine ⟨fun r' c' => ?_, h.2⟩
  rw [Matrix.setCell_cell]
  split
  · exact ⟨hc, ht⟩
  · exact h.1 r' c'

theorem Matrix.CodesOk.putEntry {m : Matrix} (h : m.CodesOk) {e : PoolEntry} (he : e.ramp.within inGainRange) :
    (m.putEntry e).CodesOk := by
  refine ⟨h.1, fun f hf => ?_⟩
  rcases mem_insertEntry e f m.pool hf with rfl | hf
  · exact he
  · exact h.2 f hf

theorem Matrix.CodesOk.dropEntry {m : Matrix} (h : m.CodesOk) (r : Fin 256) (c : Fin 64) : (m.dropEntry r c).CodesOk :=
  ⟨h.1, fun f hf => h.2 f (List.mem_filter.1 hf).1⟩

theorem Matrix.CodesOk.withWaiting {m : Matrix} (h : m.CodesOk) (l : List Waiting) : { m with waiting := l }.CodesOk := h

/-- R76: a hand-out moves no code, and the entry it hands out runs between the two codes of its crosspoint. -/
theorem Matrix.CodesOk.handOut {m : Matrix} (h : m.CodesOk) : m.handOut.CodesOk := by
  refine ⟨fun r c => ?_, fun e he => ?_⟩
  · rw [(m.handOut_codes r c).1, (m.handOut_codes r c).2]
    exact h.1 r c
  · rcases Matrix.handOutTo_pool m.waiting m with hp | ⟨w, _, hp⟩
    · exact h.2 e (hp ▸ he)
    · rcases mem_insertEntry _ e m.pool (hp ▸ he) with rfl | he
      · exact h.1 w.row w.col
      · exact h.2 e he

theorem Matrix.CodesOk.stepTo {m : Matrix} (h : m.CodesOk) (r : Fin 256) (c : Fin 64) {t : Int} (ht : inGainRange t) :
    (m.stepTo r c t).CodesOk := by
  have hset : (m.setCell r c ⟨t, t, false⟩).CodesOk := h.setCell r c ht ht
  unfold Matrix.stepTo
  dsimp only
  split
  · exact (hset.dropEntry r c).handOut
  · exact hset.withWaiting _

theorem Matrix.CodesOk.rampTo {m : Matrix} (h : m.CodesOk) (r : Fin 256) (c : Fin 64) {t : Int} (ht : inGainRange t)
    (n : Fin 8) : (m.rampTo r c t n).CodesOk := by
  have hcur := (h.1 r c).1
  have hset : ∀ b, (m.setCell r c ⟨(m.cell r c).cur, t, b⟩).CodesOk := fun b => h.setCell r c hcur ht
  have hput := (hset (m.cell r c).pend).putEntry (e := ⟨r, c, ⟨(m.cell r c).cur, t, rampLen n, 0⟩⟩) ⟨hcur, ht⟩
  unfold Matrix.rampTo
  dsimp only
  split
  · exact hput
  · split
    · exact (hset _).withWaiting _
    · split
      · exact hset _
      · split
        · exact hput
        · exact (hset true).withWaiting _

theorem Matrix.CodesOk.write {m : Matrix} (h : m.CodesOk) (r : Fin 256) (c : Fin 64) {t : Int} (ht : inGainRange t)
    (n : Fin 8) : (m.write r c t n).CodesOk := by
  unfold Matrix.write
  split
  · exact h.stepTo r c ht
  · exact h.rampTo r c ht n

theorem Matrix.CodesOk.completeEntry {m : Matrix} (h : m.CodesOk) {e : PoolEntry} (he : e.ramp.within inGainRange) :
    (m.completeEntry e).CodesOk :=
  ((h.setCell e.row e.col (x := { m.cell e.row e.col with cur := e.ramp.target }) he.2 (h.1 e.row e.col).2).dropEntry
    e.row e.col).handOut

theorem Matrix.CodesOk.advanceEntry {m : Matrix} (h : m.CodesOk) {e : PoolEntry} (he : e.ramp.within inGainRange) :
    (m.advanceEntry e).CodesOk := by
  unfold Matrix.advanceEntry
  split
  · exact h.completeEntry he
  · exact (h.setCell e.row e.col (x := { m.cell e.row e.col with cur := e.ramp.advance.cur }) he.advance.cur_gain
      (h.1 e.row e.col).2).putEntry (e := { e with ramp := e.ramp.advance }) he.advance

theorem Matrix.CodesOk.foldl_advanceEntry (l : List PoolEntry) (hl : ∀ e ∈ l, e.ramp.within inGainRange) {m : Matrix}
    (h : m.CodesOk) : (l.foldl Matrix.advanceEntry m).CodesOk := by
  induction l generalizing m with
  | nil => exact h
  | cons e rest ih =>
    obtain ⟨he, hrest⟩ := List.forall_mem_cons.1 hl
    exact ih hrest (h.advanceEntry he)

theorem Matrix.CodesOk.advance {m : Matrix} (h : m.CodesOk) : m.advance.CodesOk := foldl_advanceEntry m.pool h.2 h

theorem Matrix.settle_cell (m : Matrix) (sweeping : Bool) (r : Fin 256) (c : Fin 64) :
    (m.settle sweeping).cell r c = if sweeping then Xp.off else ⟨(m.cell r c).tgt, (m.cell r c).tgt, false⟩ := by
  simp [Matrix.settle, Matrix.cell]

theorem Matrix.CodesOk.settle {m : Matrix} (h : m.CodesOk) (sweeping : Bool) : (m.settle sweeping).CodesOk := by
  refine ⟨fun r c => ?_, fun e he => absurd he List.not_mem_nil⟩
  rw [Matrix.settle_cell]
  split
  · exact ⟨inGainRange_offCode, inGainRange_offCode⟩
  · exact ⟨(h.1 r c).2, (h.1 r c).2⟩

/-! ### Codes of channels, groups and buses (R50, R56, R68) -/

def Chan.CodesOk (c : Chan) : Prop := c.trim.within inGainRange ∧ c.mute.within inMuteRange

def Bus.CodesOk (b : Bus) : Prop := b.level.within inGainRange ∧ b.muteRamp.within inMuteRange

theorem inMuteRange_ends : inMuteRange offCode ∧ inMuteRange 0 := ⟨⟨by decide, by decide⟩, by decide, by decide⟩

theorem Chan.CodesOk.linkMuteChange {c : Chan} (h : c.CodesOk) (was now : Bool) : (c.linkMuteChange was now).CodesOk := by
  unfold Chan.linkMuteChange
  split
  · exact ⟨h.1, inMuteRange_ends.1, inMuteRange_ends.1⟩
  · split
    · exact ⟨h.1, .aim h.2.cur_mute inMuteRange_ends.2 _⟩
    · exact h

/-- The code that a mute moves its component to (R51, R68). -/
theorem inMuteRange_muteTarget (on : Bool) : inMuteRange (if on then offCode else 0) := by
  cases on
  · exact inMuteRange_ends.2
  · exact inMuteRange_ends.1

theorem Chan.CodesOk.setOpMute {c : Chan} (h : c.CodesOk) (on muted : Bool) : (c.setOpMute on muted).CodesOk := by
  unfold Chan.setOpMute
  split
  · exact h
  · split
    · exact h
    · exact ⟨h.1, .aim h.2.cur_mute (inMuteRange_muteTarget on) _⟩

theorem Bus.CodesOk.setMute {b : Bus} (h : b.CodesOk) (on : Bool) : (b.setMute on).CodesOk := by
  unfold Bus.setMute
  split
  · exact h
  · exact ⟨h.1, .aim h.2.cur_mute (inMuteRange_muteTarget on) _⟩

theorem Chan.CodesOk.settle {c : Chan} (h : c.CodesOk) (muted : Bool) : (c.settle muted).CodesOk :=
  ⟨h.1.settle, inMuteRange_muteTarget _, inMuteRange_muteTarget _⟩

theorem Bus.CodesOk.settle {b : Bus} (h : b.CodesOk) : b.settle.CodesOk :=
  ⟨h.1.settle, inMuteRange_muteTarget _, inMuteRange_muteTarget _⟩

theorem codesOk_iff (s : State) : CodesOk s ↔ s.matrix.CodesOk ∧ (∀ i : Fin 192, s.chans[i].CodesOk) ∧
    (∀ g : Fin 32, s.groups[g].trim.within inGainRange) ∧ (∀ b : Fin 64, s.buses[b].CodesOk) ∧ s.QueueCodes :=
  ⟨fun ⟨hcell, hpool, hchan, hgroup, hbus, hqueue⟩ => ⟨⟨hcell, hpool⟩, hchan, hgroup, hbus, hqueue⟩,
    fun ⟨⟨hcell, hpool⟩, hchan, hgroup, hbus, hqueue⟩ => ⟨hcell, hpool, hchan, hgroup, hbus, hqueue⟩⟩

theorem Chan.CodesOk.reviewMutes {s : State} (h : ∀ i : Fin 192, s.chans[i].CodesOk) (g : Vector Window 16)
    (x : Vector Receiver 4) (i : Fin 192) : (s.reviewMutes g x).chans[i].CodesOk := by
  rw [State.reviewMutes_getElem]
  exact (h i).linkMuteChange _ _

theorem CodesOk.reviewMutes {s : State} (hs : CodesOk s) (g : Vector Window 16) (x : Vector Receiver 4) :
    CodesOk (s.reviewMutes g x) := by
  obtain ⟨hmatrix, hchan, hgroup, hbus, hqueue⟩ := (codesOk_iff s).1 hs
  rw [codesOk_iff, State.QueueCodes, State.reviewMutes_matrix, State.reviewMutes_groups, State.reviewMutes_buses,
    State.reviewMutes_queue]
  exact ⟨hmatrix, Chan.CodesOk.reviewMutes hchan g x, hgroup, hbus, hqueue⟩

theorem CodesOk.engineReset {s : State} (hs : CodesOk s) : CodesOk s.engineReset := by
  obtain ⟨hmatrix, hchan, hgroup, hbus, _⟩ := (codesOk_iff s).1 hs
  refine (codesOk_iff _).2 ⟨?_, fun i => ?_, fun g => ?_, fun b => ?_, ?_⟩
  · simp only [State.engineReset]
    exact hmatrix.settle _
  · simp only [State.engineReset, Fin.getElem_fin, Vector.getElem_ofFn]
    exact (hchan i).settle _
  · simp only [State.engineReset, Fin.getElem_fin, mapAll_getElem]
    exact (hgroup g).settle
  · simp only [State.engineReset, Fin.getElem_fin, mapAll_getElem]
    exact (hbus b).settle
  · simp only [State.QueueCodes, State.engineReset]
    exact fun e he => absurd he List.not_mem_nil

theorem CodesOk.advanceRamps {s : State} (hs : CodesOk s) : CodesOk s.advanceRamps := by
  obtain ⟨hmatrix, hchan, hgroup, hbus, hqueue⟩ := (codesOk_iff s).1 hs
  refine (codesOk_iff _).2 ⟨hmatrix.advance, fun i => ?_, fun g => ?_, fun b => ?_, hqueue⟩
  · simp only [State.advanceRamps, Fin.getElem_fin, mapAll_getElem]
    exact ⟨(hchan i).1.advance, (hchan i).2.advance⟩
  · simp only [State.advanceRamps, Fin.getElem_fin, mapAll_getElem]
    exact (hgroup g).advance
  · simp only [State.advanceRamps, Fin.getElem_fin, mapAll_getElem]
    exact ⟨(hbus b).1.advance, (hbus b).2.advance⟩

/-- R56, R62: no elementary change takes a code out of its range. -/
theorem CodesOk.change (s t : State) (h : s.Change t) (hs : CodesOk s) : CodesOk t := by
  obtain ⟨hmatrix, hchan, hgroup, hbus, hqueue⟩ := (codesOk_iff s).1 hs
  have withMatrix : ∀ m : Matrix, m.CodesOk → CodesOk { s with matrix := m } := fun m hm =>
    (codesOk_iff _).2 ⟨hm, hchan, hgroup, hbus, hqueue⟩
  have withChan : ∀ (i : Fin 192) (c : Chan), c.CodesOk → CodesOk (s.setChan i c) := fun i c hc =>
    (codesOk_iff _).2 ⟨hmatrix, forall_getElem_set hchan i hc, hgroup, hbus, hqueue⟩
  have withBus : ∀ (i : Fin 64) (b : Bus), b.CodesOk → CodesOk (s.setBus i b) := fun i b hb =>
    (codesOk_iff _).2 ⟨hmatrix, hchan, hgroup, forall_getElem_set hbus i hb, hqueue⟩
  have withQueue : ∀ q : List AutoEvent, (∀ e ∈ q, e.move.codeOk) → CodesOk { s with queue := q } := fun q hq =>
    (codesOk_iff _).2 ⟨hmatrix, hchan, hgroup, hbus, hq⟩
  cases h with
  | relinked lk => exact CodesOk.reviewMutes (s := { s with links := lk }) hs _ _
  | ingress g _ => exact CodesOk.reviewMutes (s := { s with ingress := g }) hs _ _
  | chan i c ht hm _ => exact withChan i c ⟨(hchan i).1.restarts hqueue ht, hm ▸ (hchan i).2⟩
  | opMute i on => exact withChan i _ ((hchan i).setOpMute on _)
  | group i g ht =>
    exact (codesOk_iff _).2 ⟨hmatrix, hchan,
      forall_getElem_set (P := fun g : Group => g.trim.within inGainRange) hgroup i ((hgroup i).restarts hqueue ht), hbus,
      hqueue⟩
  | bus i b hl hm _ => exact withBus i b ⟨(hbus i).1.restarts hqueue hl, hm ▸ (hbus i).2⟩
  | busMute i on => exact withBus i _ ((hbus i).setMute on)
  | xp r c t n ht => exact withMatrix _ (hmatrix.write r c (ht hqueue) n)
  | completed e he => exact withMatrix _ (hmatrix.completeEntry (hmatrix.2 e he))
  | ramps => exact hs.advanceRamps
  | queued e _ hc =>
    refine withQueue _ fun f hf => ?_
    rcases (mem_insertEvent e f s.queue).1 hf with rfl | hf
    · exact hc
    · exact hqueue f hf
  | unqueued q hq => exact withQueue q fun e he => hqueue e (hq.mem he)
  | engineReset => exact hs.engineReset
  | startUp => exact CodesOk.reset
  | _ => exact hs

/-! ### Mute components and mutes (R37, R50, R51, R68) -/

/-- R50, R51: the channel's mute component goes by its operator mute and its link mute. -/
def Chan.MuteOk (c : Chan) (muted : Bool) : Prop :=
  c.mute.target = (if c.opMute = true ∨ muted = true then -960 else 0) ∧ (muted = true → c.mute = ⟨-960, -960, 0, 0⟩)

/-- R68: the bus mute component goes by the bus mute. -/
def Bus.MuteOk (b : Bus) : Prop := b.muteRamp.target = if b.muted = true then -960 else 0

theorem mutesOk_iff (s : State) :
    MutesOk s ↔ (∀ i : Fin 192, s.chans[i].MuteOk (s.muted i)) ∧ ∀ b : Fin 64, s.buses[b].MuteOk := Iff.rfl

theorem Ramp.aim_target (r : Ramp) (t : Int) (len : Nat) : (r.aim t len).target = t := by
  unfold Ramp.aim
  split <;> rfl

@[simp] theorem Ramp.advance_target (r : Ramp) : r.advance.target = r.target := by
  unfold Ramp.advance
  split <;> rfl

theorem Chan.MuteOk.linkMuteChange {c : Chan} {was : Bool} (h : c.MuteOk was) (now : Bool) :
    (c.linkMuteChange was now).MuteOk now := by
  obtain ⟨htarget, hstands⟩ := h
  rw [Chan.linkMuteChange_eq]
  cases was with
  | false =>
    cases now with
    | false => exact ⟨htarget, fun e => nomatch e⟩
    | true => exact ⟨(if_pos (.inr rfl)).symm, fun _ => rfl⟩
  | true =>
    cases now with
    | false =>
      cases hop : c.opMute with
      | false =>
        refine ⟨?_, fun e => nomatch e⟩
        simp
      | true =>
        refine ⟨?_, fun e => nomatch e⟩
        simpa [hop] using htarget
    | true => exact ⟨htarget, hstands⟩

theorem Chan.MuteOk.setOpMute {c : Chan} {muted : Bool} (h : c.MuteOk muted) (on : Bool) :
    (c.setOpMute on muted).MuteOk muted := by
  unfold Chan.setOpMute
  split
  · exact h
  · cases muted with
    | true =>
      rw [if_pos rfl]
      exact ⟨by rw [h.2 rfl, if_pos (.inr rfl)], fun _ => h.2 rfl⟩
    | false =>
      rw [if_neg Bool.false_ne_true]
      refine ⟨?_, fun e => nomatch e⟩
      rw [Ramp.aim_target]
      cases on <;> rfl

theorem Chan.MuteOk.advance {c : Chan} {muted : Bool} (h : c.MuteOk muted) : c.advance.MuteOk muted := by
  refine ⟨(Ramp.advance_target _).trans h.1, fun hm => ?_⟩
  rw [Chan.advance, h.2 hm]
  rfl

theorem Chan.MuteOk.settle (c : Chan) (muted : Bool) : (c.settle muted).MuteOk muted := by
  refine ⟨?_, fun hm => ?_⟩
  · cases muted <;> cases h : c.opMute <;> simp [Chan.settle, standing, offCode, h]
  · subst hm
    rfl

theorem Bus.MuteOk.setMute {b : Bus} (h : b.MuteOk) (on : Bool) : (b.setMute on).MuteOk := by
  unfold Bus.setMute
  split
  · exact h
  · exact Ramp.aim_target _ _ _

/-- Link mute evaluated again brings the mute components after it (R36, R37, R42). -/
theorem MutesOk.reviewMutes {s t : State} (hs : MutesOk s) (hchans : t.chans = s.chans) (hbuses : t.buses = s.buses) :
    MutesOk (t.reviewMutes s.ingress s.links) := by
  refine (mutesOk_iff _).2 ⟨fun i => ?_, fun b => ?_⟩
  · have hmuted : (t.reviewMutes s.ingress s.links).muted i = t.muted i := by
      rw [State.muted, State.reviewMutes_ingress, State.reviewMutes_links, State.muted]
    rw [hmuted, State.reviewMutes_getElem, hchans]
    exact Chan.MuteOk.linkMuteChange (hs.1 i) (t.muted i)
  · rw [State.reviewMutes_buses, hbuses]
    exact hs.2 b

theorem MutesOk.engineReset {s : State} : MutesOk s.engineReset := by
  refine (mutesOk_iff _).2 ⟨fun i => ?_, fun b => ?_⟩
  · rw [State.muted, State.engineReset_ingress, State.engineReset_links]
    simp only [State.engineReset, Fin.getElem_fin, Vector.getElem_ofFn]
    exact Chan.MuteOk.settle _ _
  · simp only [State.engineReset, Fin.getElem_fin, mapAll_getElem]
    rfl

theorem MutesOk.advanceRamps {s : State} (hs : MutesOk s) : MutesOk s.advanceRamps := by
  refine (mutesOk_iff _).2 ⟨fun i => ?_, fun b => ?_⟩
  · simp only [State.advanceRamps, Fin.getElem_fin, mapAll_getElem]
    exact Chan.MuteOk.advance (hs.1 i)
  · simp only [State.advanceRamps, Fin.getElem_fin, mapAll_getElem]
    exact (Ramp.advance_target _).trans (hs.2 b)

/-- One channel written anew, whose mute component goes by its mutes. -/
theorem MutesOk.setChan {s : State} (hs : MutesOk s) (i : Fin 192) {c : Chan} (hc : c.MuteOk (s.muted i)) :
    MutesOk (s.setChan i c) := by
  refine (mutesOk_iff _).2 ⟨fun j => ?_, hs.2⟩
  change (s.chans.set i c)[j].MuteOk (s.muted j)
  by_cases e : i.val = j.val
  · obtain rfl := Fin.ext e
    simpa using hc
  · rw [Fin.getElem_fin, Vector.getElem_set_ne _ _ e]
    exact hs.1 j

theorem MutesOk.setBus {s : State} (hs : MutesOk s) (i : Fin 64) {b : Bus} (hb : b.MuteOk) : MutesOk (s.setBus i b) :=
  ⟨hs.1, forall_getElem_set (P := Bus.MuteOk) hs.2 i hb⟩

/-- R37, R50, R51, R68: no elementary change parts a mute component from its mutes. -/
theorem MutesOk.change (s t : State) (h : s.Change t) (hs : MutesOk s) : MutesOk t := by
  cases h with
  | receivers lk hlk =>
    refine (mutesOk_iff _).2 ⟨fun i => ?_, hs.2⟩
    have hmuted : linkMuted s.ingress lk i = s.muted i := linkMuted_congr _ _ _ hlk i
    change s.chans[i].MuteOk (linkMuted s.ingress lk i)
    rw [hmuted]
    exact hs.1 i
  | relinked lk => exact hs.reviewMutes rfl rfl
  | ingress g _ => exact hs.reviewMutes rfl rfl
  | chan i c _ hm ho =>
    refine hs.setChan i ?_
    unfold Chan.MuteOk
    rw [hm, ho]
    exact hs.1 i
  | opMute i on => exact hs.setChan i (Chan.MuteOk.setOpMute (hs.1 i) on)
  | bus i b _ hm ho =>
    refine hs.setBus i ?_
    unfold Bus.MuteOk
    rw [hm, ho]
    exact hs.2 i
  | busMute i on => exact hs.setBus i (Bus.MuteOk.setMute (hs.2 i) on)
  | ramps => exact hs.advanceRamps
  | engineReset => exact MutesOk.engineReset
  | startUp => exact MutesOk.reset
  | _ => exact hs

/-- Settles O54: every step is a run of elementary changes, and none of these breaks `CodesOk` or `MutesOk`. -/
theorem codesStayInRange : Obligations.CodesStayInRange := fun _ _ h =>
  ⟨fun hs => step_keeps CodesOk.change hs h, fun hs => step_keeps MutesOk.change hs h⟩

end Sys2Proof.Machine
end

section
namespace Sys2Proof.Machine

/-! ### Ramps and mutes that a write aims anew (R45, R51, R63, R68) -/

theorem Chan.setOpMute_eq (c : Chan) (on muted : Bool) :
    c.setOpMute on muted = { c with
      opMute := on
      mute := if c.opMute = on ∨ muted = true then c.mute else ⟨c.mute.cur, if on then -960 else 0, 480, 0⟩ } := by
  unfold Chan.setOpMute
  by_cases ho : c.opMute = on
  · rw [if_pos ho, if_pos (.inl ho), ← ho]
  · rw [if_neg ho]
    cases muted with
    | true => rw [if_pos rfl, if_pos (.inr rfl)]
    | false =>
      simp only [ho, Bool.false_eq_true, or_self, if_false]
      rfl

theorem Bus.setMute_eq (b : Bus) (on : Bool) :
    b.setMute on = { b with
      muted := on
      muteRamp := if b.muted = on then b.muteRamp else ⟨b.muteRamp.cur, if on then -960 else 0, 480, 0⟩ } := by
  unfold Bus.setMute
  by_cases ho : b.muted = on
  · rw [if_pos ho, if_pos ho, ← ho]
  · rw [if_neg ho, if_neg ho]
    rfl

/-! ### The encodings of single fields (R44, R172, R175) -/

theorem index?_val {n : Nat} (i : Fin n) : index? n i.val = some i := index?_of_lt i.isLt

theorem polarity?_of_le {n : Nat} (h : n ≤ 1) : polarity? n = some (if n = 1 then .inverted else .normal) := by
  have : n = 0 ∨ n = 1 := by omega
  rcases this with rfl | rfl <;> rfl

theorem polarity?_of_lt {n : Nat} (h : 1 < n) : polarity? n = none := by
  rw [polarity?, if_neg (by omega), if_neg (by omega)]

/-- The number that a group octet spells a group by: its index, or 255 for none. -/
theorem group?_taken {n : Nat} {group : Option (Fin 32)}
    (h : match group with | none => n = 255 | some x => n = x.val) : group? n = some group := by
  cases group with
  | none => exact if_pos h
  | some x =>
    have hn : n = x.val := h
    rw [group?, if_neg (by omega), hn, index?_val]
    rfl

theorem group?_refused {n : Nat} (h : 31 < n) (h' : n ≠ 255) : group? n = none := by
  rw [group?, if_neg h', index?_of_le h]
  rfl

theorem steer?_refused {n : Nat} (h : 3 < n) : steer? n = none := by
  rw [steer?, if_neg (by omega), if_neg (by omega), if_neg (by omega), if_neg (by omega)]

theorem mode?_refused {n : Nat} (h : 1 < n) : mode? n = none := by
  rw [mode?, if_neg (by omega), if_neg (by omega)]

/-! ### WRITE_TABLE of one record of a space without whole-command effects (R165) -/

theorem State.afterWrite_of_ne (s w : State) {space : Fin 8} (h3 : space ≠ 3) (h4 : space ≠ 4) (idx n : Nat) :
    s.afterWrite w space idx n = w := by
  rw [State.afterWrite_eq, if_neg h3, if_neg h4]

section
variable {s : State} (h : s.ready) (tag idx : Octet) {space : Fin 8} (h3 : space ≠ 3) (h4 : space ≠ 4) {o : List Octet}
  (ho : o.length = recordSize space)
include h h3 h4 ho

theorem exec_writeTable_record {w : TableWrite} (hw : State.writeRecords space idx.toNat [o] s = w) :
    exec (.writeTable tag (octet space.val :: idx :: o)) s =
      .next (w.state.respond 0x83#8 tag [(w.refusal.getD .ok).octet, octet w.count]) := by
  have hdo := doWriteTable_records s space idx [o] (List.cons_ne_nil _ _)
    (fun x hx => by rw [List.mem_singleton.1 hx, ho]) w hw
  rw [List.flatten_singleton, State.afterWrite_of_ne s _ h3 h4] at hdo
  exact exec_writeTable_reply h tag _ _ _ _ hdo

theorem exec_writeTable_written {t : State} (hw : s.writeRecord space idx.toNat o = .ok t) :
    exec (.writeTable tag (octet space.val :: idx :: o)) s = .next (t.respond 0x83#8 tag [0x00#8, 1#8]) :=
  exec_writeTable_record h tag idx h3 h4 ho (w := ⟨t, 1, none⟩) (by rw [State.writeRecords, hw]; rfl)

theorem exec_writeTable_refused {e : Status} (hw : s.writeRecord space idx.toNat o = .error e) :
    exec (.writeTable tag (octet space.val :: idx :: o)) s = .next (s.respond 0x83#8 tag [e.octet, 0#8]) :=
  exec_writeTable_record h tag idx h3 h4 ho (w := ⟨s, 0, some e⟩) (by rw [State.writeRecords, hw])

end

theorem ranged_index_refused {n x : Nat} (h : n ≤ x) (f : Fin n → Written) : ranged (index? n x) f = .error .range := by
  rw [index?_of_le h]
  rfl

theorem ranged_index_val {n : Nat} (i : Fin n) (f : Fin n → Written) : ranged (index? n i.val) f = f i := by
  rw [index?_val]
  rfl

/-- A writer that refuses every value with RANGE is answered RANGE where there is none as well. -/
theorem ranged_refused {α : Type} (x : Option α) {f : α → Written} (h : ∀ a, f a = .error .range) :
    ranged x f = .error .range := by
  cases x with
  | none => rfl
  | some a => exact h a

/-! ### WRITE_TABLE of one SOURCE record (R44) -/

theorem sourceFields?_taken {hi lo g pm n : Octet} {group : Option (Fin 32)} {cls : Fin 8}
    (hg : match group with | none => g.toNat = 255 | some x => g.toNat = x.val)
    (hp : pm.toNat / 16 ≤ 1) (hm : pm.toNat % 16 ≤ 1) (hn : n.toNat = cls.val) :
    sourceFields? [hi, lo, g, pm, n] = some ⟨clampCode (signed16 hi lo), group,
      if pm.toNat / 16 = 1 then .inverted else .normal, decide (pm.toNat % 16 = 1), cls⟩ := by
  simp only [sourceFields?, List.getD_cons_zero, List.getD_cons_succ, group?_taken hg, polarity?_of_le hp, bit?_of_le hm, hn,
    index?_val]
  rfl

theorem sourceFields?_refused {hi lo g pm n : Octet}
    (h : (31 < g.toNat ∧ g.toNat ≠ 255) ∨ 1 < pm.toNat / 16 ∨ 1 < pm.toNat % 16 ∨ 7 < n.toNat) :
    sourceFields? [hi, lo, g, pm, n] = none := by
  rw [Option.eq_none_iff_forall_ne_some]
  intro f hf
  simp only [sourceFields?, List.getD_cons_zero, List.getD_cons_succ, Option.bind_eq_bind, Option.bind_eq_some_iff] at hf
  obtain ⟨group, hg, polarity, hp, mute, hm, cls, hn, _⟩ := hf
  rcases h with h | h | h | h
  · exact nomatch (group?_refused h.1 h.2).symm.trans hg
  · exact nomatch (polarity?_of_lt h).symm.trans hp
  · exact nomatch (bit?_of_lt h).symm.trans hm
  · exact nomatch (index?_of_le h).symm.trans hn

/-- Settles O14: the record is judged by `sourceFields?`, and `Chan.setOpMute_eq` says what becomes of the mute. -/
theorem writeSourceRecord : Obligations.WriteSourceRecord := by
  intro s tag idx hi lo g pm n hready command
  refine ⟨fun h => ?_, fun i group cls hi' hg hp hm hn => ?_⟩
  · refine exec_writeTable_refused hready tag idx (space := 0) (by decide) (by decide) rfl (e := .range) ?_
    change s.writeSource idx.toNat [hi, lo, g, pm, n] = _
    rcases h with h | h
    · exact ranged_index_refused h _
    · rw [State.writeSource, sourceFields?_refused h]
      exact ranged_refused _ fun _ => rfl
  · intro c code len on
    refine exec_writeTable_written hready tag idx (space := 0) (by decide) (by decide) rfl ?_
    change s.writeSource idx.toNat [hi, lo, g, pm, n] = _
    rw [State.writeSource, hi', ranged_index_val, sourceFields?_taken hg hp hm hn]
    simp only [ranged, State.putSource, Chan.setOpMute_eq]
    rfl

/-! ### WRITE_TABLE of one GROUP, NOTICE or CONTROL record (R48, R167, R175) -/

theorem noticeFields?_taken {a m : Octet} {steer : Steering} {mode : ClearMode} (ha : steer? a.toNat = some steer)
    (hm : mode? m.toNat = some mode) : noticeFields? [a, m] = some ⟨steer, mode⟩ := by
  simp only [noticeFields?, List.getD_cons_zero, List.getD_cons_succ, ha, hm]
  rfl

theorem noticeFields?_refused {a m : Octet} (h : 3 < a.toNat ∨ 1 < m.toNat) : noticeFields? [a, m] = none := by
  simp only [noticeFields?, List.getD_cons_zero, List.getD_cons_succ]
  rcases h with h | h
  · rw [steer?_refused h]
    rfl
  · rw [mode?_refused h]
    cases steer? a.toNat <;> rfl

/-- Settles O16: an index and a record in range are written whole by the space's owner, and either out of range is refused. -/
theorem writeGroupNoticeControl : Obligations.WriteGroupNoticeControl := by
  intro s tag hready refused
  refine ⟨fun g hi lo n cls hn => ?_, fun idx hi lo n h => ?_, fun c steer mode => ?_, fun idx a m h => ?_,
    fun idx count timer hi lo hold => ?_⟩
  · intro code len
    refine exec_writeTable_written hready tag (octet g.val) (space := 2) (by decide) (by decide) rfl ?_
    change s.writeGroup (octet g.val).toNat [hi, lo, n] = _
    rw [State.writeGroup, toNat_octet (by omega), ranged_index_val]
    change ranged (index? 8 n.toNat) _ = _
    rw [hn, ranged_index_val]
    rfl
  · refine exec_writeTable_refused hready tag idx (space := 2) (by decide) (by decide) rfl (e := .range) ?_
    change s.writeGroup idx.toNat [hi, lo, n] = _
    rcases h with h | h
    · exact ranged_index_refused h _
    · exact ranged_refused _ fun _ => ranged_index_refused h _
  · refine exec_writeTable_written hready tag (octet c.val) (space := 6) (by decide) (by decide) rfl ?_
    change s.writeNotice (octet c.val).toNat _ = _
    rw [State.writeNotice, toNat_octet (by omega), ranged_index_val,
      noticeFields?_taken (steer := steer) (mode := mode) (by cases steer <;> rfl) (by cases mode <;> rfl)]
    rfl
  · refine exec_writeTable_refused hready tag idx (space := 6) (by decide) (by decide) rfl (e := .range) ?_
    change s.writeNotice idx.toNat [a, m] = _
    rcases h with h | h
    · exact ranged_index_refused h _
    · rw [State.writeNotice, noticeFields?_refused h]
      exact ranged_refused _ fun _ => rfl
  · intro low inRange command
    refine ⟨fun h => ?_, fun h => ?_⟩
    · obtain ⟨hidx, hfields⟩ := h
      refine exec_writeTable_written hready tag idx (space := 7) (by decide) (by decide) rfl ?_
      change s.writeControl idx.toNat [count, timer, hi, lo, hold] = _
      have hcontrol : controlFields? [count, timer, hi, lo, hold] = some ⟨count.toNat, timer.toNat, low, hold.toNat⟩ :=
        if_pos hfields
      rw [State.writeControl, index?_of_lt (by omega), hcontrol]
      rfl
    · refine exec_writeTable_refused hready tag idx (space := 7) (by decide) (by decide) rfl (e := .range) ?_
      change s.writeControl idx.toNat [count, timer, hi, lo, hold] = _
      by_cases hidx : idx.toNat = 0
      · have hcontrol : controlFields? [count, timer, hi, lo, hold] = none := if_neg fun hf => h ⟨hidx, hf⟩
        rw [State.writeControl, hcontrol]
        exact ranged_refused _ fun _ => rfl
      · exact ranged_index_refused (by omega) _

end Sys2Proof.Machine
end

section
namespace Sys2Proof.Machine

/-! ### WRITE_FIELD at a free processor (R158, R166) -/

section
variable {s : State} (h : s.ready) (tag : Octet) {sp idx f hi lo : Octet}
include h

theorem exec_writeField_reply {t : State} {st : Status} (hr : doWriteField [sp, idx, f, hi, lo] s = .only t st) :
    exec (.writeField tag [sp, idx, f, hi, lo]) s = .next (t.respond 0x84#8 tag [st.octet]) := by
  have he : exec (.writeField tag [sp, idx, f, hi, lo]) s = .next (s.submit ⟨4#8, tag, [sp, idx, f, hi, lo]⟩) := rfl
  have hrun : runMessage ⟨4#8, tag, [sp, idx, f, hi, lo]⟩ s = ⟨t, [st.octet]⟩ := hr
  rw [he, State.submit_ready _ _ h, State.execute_reply _ _ _ _ hrun]
  rfl

theorem exec_writeField_written {t : State}
    (hw : s.writeOneField sp.toNat idx.toNat f.toNat (signed16 hi lo) = .ok t) :
    exec (.writeField tag [sp, idx, f, hi, lo]) s = .next (t.respond 0x84#8 tag [0x00#8]) :=
  exec_writeField_reply h tag (st := .ok)
    (by simp only [doWriteField, List.getD_cons_zero, List.getD_cons_succ, hw])

theorem exec_writeField_refused {e : Status}
    (hw : s.writeOneField sp.toNat idx.toNat f.toNat (signed16 hi lo) = .error e) :
    exec (.writeField tag [sp, idx, f, hi, lo]) s = .next (s.respond 0x84#8 tag [e.octet]) :=
  exec_writeField_reply h tag
    (by simp only [doWriteField, List.getD_cons_zero, List.getD_cons_succ, hw])

end

/-! ### The value of a field that is not a code (R166) -/

theorem octetValue?_natCast {n : Nat} (h : n ≤ 255) : octetValue? (n : Int) = some n :=
  if_pos ⟨Int.natCast_nonneg n, by omega⟩

theorem octetValue?_refused {v : Int} (h : v < 0 ∨ 255 < v) : octetValue? v = none := if_neg (by omega)

/-- A value is refused when its octet's number is, and when no octet holds it (log entry 15). -/
theorem octetValue?_bind_refused {α : Type} {v : Int} {g : Nat → Option α}
    (h : ∀ n : Nat, v = n → g n = none) : (octetValue? v).bind g = none := by
  unfold octetValue?
  split
  · next hv => exact h _ (Int.toNat_of_nonneg hv.1).symm
  · rfl

/-- A field that a number from its octet spells is written. -/
theorem ranged_octetValue? {α : Type} {v : Int} {n : Nat} (hv : v = n) (hn : n ≤ 255) {g : Nat → Option α} {a : α}
    (hg : g n = some a) (f : α → Written) : ranged ((octetValue? v).bind g) f = f a := by
  rw [hv, octetValue?_natCast hn, Option.bind_some, hg]
  rfl

theorem ranged_octetValue?_refused {α : Type} {v : Int} {g : Nat → Option α}
    (h : ∀ n : Nat, v = n → g n = none) (f : α → Written) : ranged ((octetValue? v).bind g) f = .error .range := by
  rw [octetValue?_bind_refused h]
  rfl

/-! ### The egress slot that a field write asks for (R114, R115, R126) -/

theorem Slot.moving_iff (t : Slot) : t.moving = true ↔ t.crossfades := by
  unfold Slot.moving Slot.crossfades
  cases t.use with
  | punch b p state k => cases state <;> simp
  | _ => simp

/-- The kind, index and replay channel spell no use. -/
theorem slotUse?_refused {kind idx rep : Nat}
    (h : 3 < kind ∨ (kind = 1 ∧ 63 < idx) ∨ (kind = 2 ∧ 191 < idx) ∨ (kind = 3 ∧ (63 < idx ∨ 191 < rep))) :
    slotUse? kind idx rep = none := by
  rcases h with h | ⟨rfl, h⟩ | ⟨rfl, h⟩ | ⟨rfl, h⟩
  · match kind, h with
    | _ + 4, _ => rfl
  · simp only [slotUse?, index?_of_le h]
    rfl
  · simp only [slotUse?, index?_of_le h]
    rfl
  · rcases h with h | h
    · simp only [slotUse?, index?_of_le h]
      rfl
    · simp only [slotUse?, index?_of_le h]
      cases index? 64 idx <;> rfl

theorem State.putSlot_refused (s : State) (i : Fin 128) {kind idx rep cls : Nat} (h : slotRefused kind idx rep cls) :
    s.putSlot i kind idx rep cls = .error .range := by
  rw [State.putSlot]
  by_cases hc : 7 < cls
  · exact ranged_refused _ fun _ => ranged_index_refused hc _
  · have huse : slotUse? kind idx rep = none := by
      apply slotUse?_refused
      unfold slotRefused at h
      omega
    rw [huse]
    rfl

/-- R115, R126: the four numbers spell the use that, written over the old slot, is the new one. -/
theorem slotMade.rewritten {old new : Slot} {kind idx rep cls : Nat} (h : slotMade old kind idx rep cls new) :
    ∃ u, slotUse? kind idx rep = some u ∧ old.rewritten u new.cls = new := by
  obtain ⟨use, ncls⟩ := new
  obtain ⟨_, hmade⟩ := h
  have replaced : ∀ u, (∀ b p st k, u ≠ .punch b p st k) → old.rewritten u ncls = ⟨u, ncls⟩ := fun u hu => by
    unfold Slot.rewritten
    split
    · next heq => exact absurd rfl (hu _ _ _ _)
    · rfl
  cases use with
  | off =>
    obtain rfl : kind = 0 := hmade
    exact ⟨.off, rfl, replaced _ fun _ _ _ _ => by simp⟩
  | bus b =>
    obtain ⟨rfl, rfl⟩ : kind = 1 ∧ idx = b.val := hmade
    exact ⟨.bus b, by simp only [slotUse?, index?_val]; rfl, replaced _ fun _ _ _ _ => by simp⟩
  | direct i =>
    obtain ⟨rfl, rfl⟩ : kind = 2 ∧ idx = i.val := hmade
    exact ⟨.direct i, by simp only [slotUse?, index?_val]; rfl, replaced _ fun _ _ _ _ => by simp⟩
  | punch b p state k =>
    have spelt : slotUse? 3 b.val p.val = some (.punch b p .replay 0) := by
      simp only [slotUse?, index?_val]
      rfl
    cases state with
    | replay =>
      obtain ⟨rfl, rfl, rfl, rfl, hlive⟩ : kind = 3 ∧ idx = b.val ∧ rep = p.val ∧ k = 0 ∧ _ := hmade
      refine ⟨_, spelt, ?_⟩
      unfold Slot.rewritten
      split
      · next heq _ => exact absurd heq (hlive _ _ _)
      · rfl
    | live =>
      obtain ⟨rfl, rfl, rfl, rfl, _, _, hlive⟩ : kind = 3 ∧ idx = b.val ∧ rep = p.val ∧ k = rampLen ncls ∧ _ := hmade
      refine ⟨_, spelt, ?_⟩
      simp only [Slot.rewritten, hlive]
      by_cases hc : ncls = old.cls
      · rw [if_pos hc, hc]
      · rw [if_neg hc]
    | toLive => exact hmade.elim
    | toReplay => exact hmade.elim

theorem State.putSlot_made (s : State) (i : Fin 128) {kind idx rep cls : Nat} {slot : Slot}
    (h : slotMade s.egress[i] kind idx rep cls slot) :
    s.putSlot i kind idx rep cls = .ok { s with egress := s.egress.set i slot } := by
  obtain ⟨u, huse, hslot⟩ := h.rewritten
  rw [State.putSlot, huse, ← h.1, index?_val]
  simp only [ranged, hslot]

/-! ### WRITE_FIELD refused (R166) -/

/-- A field value outside 0..n. -/
def beyond (v n : Int) : Prop := v < 0 ∨ n < v

theorem index?_refused_of_beyond {v : Int} {n : Nat} (h : beyond v n) (x : Nat) (hx : v = x) : index? (n + 1) x = none :=
  index?_of_le (by unfold beyond at h; omega)

theorem State.writeSourceField_refused (s : State) {idx f : Nat} {v : Int}
    (h : 191 < idx ∨ 4 < f ∨ (f = 1 ∧ beyond v 31 ∧ v ≠ 255) ∨ (f = 2 ∧ beyond v 1) ∨ (f = 3 ∧ beyond v 1) ∨
      (f = 4 ∧ beyond v 7)) : s.writeSourceField idx f v = .error .range := by
  rcases h with h | h
  · exact ranged_index_refused h _
  · refine ranged_refused _ fun i => ?_
    rcases h with h | ⟨rfl, hv, hnone⟩ | ⟨rfl, hv⟩ | ⟨rfl, hv⟩ | ⟨rfl, hv⟩
    · match f, h with
      | _ + 5, _ => rfl
    · exact ranged_octetValue?_refused (fun n hn => group?_refused (by unfold beyond at hv; omega) (by omega)) _
    · exact ranged_octetValue?_refused (fun n hn => polarity?_of_lt (by unfold beyond at hv; omega)) _
    · exact ranged_octetValue?_refused (fun n hn => bit?_of_lt (by unfold beyond at hv; omega)) _
    · exact ranged_octetValue?_refused (index?_refused_of_beyond hv) _

theorem State.writeBusField_refused (s : State) {idx f : Nat} {v : Int}
    (h : 63 < idx ∨ 3 < f ∨ (f = 0 ∧ beyond v 3) ∨ (f = 2 ∧ beyond v 1) ∨ (f = 3 ∧ beyond v 7)) :
    s.writeBusField idx f v = .error .range := by
  rcases h with h | h
  · exact ranged_index_refused h _
  · refine ranged_refused _ fun i => ?_
    rcases h with h | ⟨rfl, hv⟩ | ⟨rfl, hv⟩ | ⟨rfl, hv⟩
    · match f, h with
      | _ + 4, _ => rfl
    · exact ranged_octetValue?_refused (index?_refused_of_beyond hv) _
    · exact ranged_octetValue?_refused (fun n hn => bit?_of_lt (by unfold beyond at hv; omega)) _
    · exact ranged_octetValue?_refused (index?_refused_of_beyond hv) _

theorem State.writeGroupField_refused (s : State) {idx f : Nat} {v : Int} (h : 31 < idx ∨ 1 < f ∨ (f = 1 ∧ beyond v 7)) :
    s.writeGroupField idx f v = .error .range := by
  rcases h with h | h
  · exact ranged_index_refused h _
  · refine ranged_refused _ fun i => ?_
    rcases h with h | ⟨rfl, hv⟩
    · match f, h with
      | _ + 2, _ => rfl
    · exact ranged_octetValue?_refused (index?_refused_of_beyond hv) _

theorem State.writeEgressField_busy (s : State) (t : Fin 128) (h : s.egress[t].crossfades) (f : Nat) (v : Int) :
    s.writeEgressField t.val f v = .error .busy := by
  rw [State.writeEgressField, ranged_index_val, if_pos ((Slot.moving_iff _).2 h)]

/-- A field of a slot that does not crossfade is judged as the record that it makes (R115). -/
theorem State.writeEgressField_free (s : State) (t : Fin 128) (h : ¬s.egress[t].crossfades) (f : Nat) (v : Int) :
    s.writeEgressField t.val f v = ranged (octetValue? v) fun n =>
      match f with
      | 0 => s.putSlot t n s.egress[t].use.index s.egress[t].use.replay s.egress[t].cls.val
      | 1 => s.putSlot t s.egress[t].use.kind n s.egress[t].use.replay s.egress[t].cls.val
      | 2 => s.putSlot t s.egress[t].use.kind s.egress[t].use.index n s.egress[t].cls.val
      | 3 => s.putSlot t s.egress[t].use.kind s.egress[t].use.index s.egress[t].use.replay (classHalf n)
      | _ => .error .range :=
  (ranged_index_val t _).trans (if_neg (mt (Slot.moving_iff _).1 h))

theorem State.writeEgressField_refused (s : State) (t : Fin 128) (h : ¬s.egress[t].crossfades) {f : Nat} {v : Int}
    (hf : 3 < f ∨ beyond v 255) : s.writeEgressField t.val f v = .error .range := by
  rw [s.writeEgressField_free t h]
  rcases hf with hf | hv
  · refine ranged_refused _ fun n => ?_
    match f, hf with
    | _ + 4, _ => rfl
  · rw [octetValue?_refused hv]
    rfl

theorem State.writeOneField_unknownSpace (s : State) {sp : Nat} (h : 7 < sp) (idx f : Nat) (v : Int) :
    s.writeOneField sp idx f v = .error .range :=
  match sp, h with
  | n + 8, _ => show (if n + 8 ≤ 7 then Except.error Status.badKind else Except.error Status.range) = _ from if_neg (by omega)

/-- Settles O22: the space decides who is asked, and each owner's refusals are the lemmas above. -/
theorem writeFieldRefused : Obligations.WriteFieldRefused := by
  intro s tag sp idx f hi lo hready v beyond' refused
  have row : ∀ (space : Nat) (e : Status), sp.toNat = space → s.writeOneField space idx.toNat f.toNat v = .error e →
      refused e.octet := fun space e hsp hw => exec_writeField_refused hready tag (hsp ▸ hw)
  refine ⟨fun h => ?_, fun h => ?_, fun hsp h => ?_, fun hsp h => ?_, fun hsp h => ?_, fun hsp h => ?_,
    fun hsp t ht hfree h => ?_⟩
  · rcases h with h | h | h | h <;> exact row _ .badKind h rfl
  · exact row _ .range rfl (s.writeOneField_unknownSpace h _ _ _)
  · exact row 0 .range hsp (s.writeSourceField_refused h)
  · exact row 1 .range hsp (s.writeBusField_refused h)
  · exact row 2 .range hsp (s.writeGroupField_refused h)
  · exact row 5 .range hsp (ranged_index_refused h _)
  · refine row 5 .range hsp ?_
    rw [ht]
    exact s.writeEgressField_refused t hfree h

/-! ### WRITE_FIELD written (R166) -/

theorem ranged_bit? {v : Int} (hv : v = 0 ∨ v = 1) (f : Bool → Written) :
    ranged ((octetValue? v).bind bit?) f = f (decide (v = 1)) := by
  rcases hv with rfl | rfl <;> rfl

theorem ranged_polarity? {v : Int} (hv : v = 0 ∨ v = 1) (f : Polarity → Written) :
    ranged ((octetValue? v).bind polarity?) f = f (if v = 1 then .inverted else .normal) := by
  rcases hv with rfl | rfl <;> rfl

theorem ranged_octet_index? {n : Nat} (hn : n ≤ 256) {v : Int} {i : Fin n} (hv : v = i.val) (f : Fin n → Written) :
    ranged ((octetValue? v).bind (index? n)) f = f i :=
  ranged_octetValue? hv (by omega) (index?_val i) f

/-- The kind, index and replay channel that a slot's record shows (R115, R172). -/
theorem SlotUse.numbers_eq (u : SlotUse) :
    u.kind = (match u with | .off => 0 | .bus _ => 1 | .direct _ => 2 | .punch _ _ _ _ => 3) ∧
    u.index = (match u with | .off => 0 | .bus b => b.val | .direct i => i.val | .punch b _ _ _ => b.val) ∧
    u.replay = (match u with | .punch _ p _ _ => p.val | _ => 0) := by
  cases u <;> exact ⟨rfl, rfl, rfl⟩

/-- R115: the four numbers that a field write of a slot is judged by. -/
theorem State.writeEgressField_natCast (s : State) (t : Fin 128) (h : ¬s.egress[t].crossfades) (f : Fin 4) {n : Nat}
    (hn : n ≤ 255) :
    s.writeEgressField t.val f.val n =
      s.putSlot t (if f = 0 then n else s.egress[t].use.kind) (if f = 1 then n else s.egress[t].use.index)
        (if f = 2 then n else s.egress[t].use.replay) (if f = 3 then n % 16 else s.egress[t].cls.val) := by
  rw [s.writeEgressField_free t h, octetValue?_natCast hn]
  match f with
  | 0 => rfl
  | 1 => rfl
  | 2 => rfl
  | 3 => rfl

/-- Settles O21: the space's owner finds the record by its index and the new field by `octetValue?`; what an EGRESS slot
becomes is what `State.putSlot_made` says of its record. -/
theorem writeFieldOfRecord : Obligations.WriteFieldOfRecord := by
  intro s tag hi lo hready v code field done refused restart chan bus on
  have written : ∀ (space idx f : Nat) (t : State), space < 256 → idx < 256 → f < 256 →
      s.writeOneField space idx f v = .ok t → field space idx f = done t := fun space idx f t h1 h2 h3 hw =>
    exec_writeField_written hready tag (sp := octet space) (idx := octet idx) (f := octet f)
      (by rw [toNat_octet h1, toNat_octet h2, toNat_octet h3]; exact hw)
  have unwritten : ∀ (space idx f : Nat) (e : Status), space < 256 → idx < 256 → f < 256 →
      s.writeOneField space idx f v = .error e → field space idx f = refused e.octet := fun space idx f e h1 h2 h3 hw =>
    exec_writeField_refused hready tag (sp := octet space) (idx := octet idx) (f := octet f)
      (by rw [toNat_octet h1, toNat_octet h2, toNat_octet h3]; exact hw)
  have source : ∀ (i : Fin 192) (f : Nat) (c : Chan), f < 256 → s.writeSourceField i.val f v = .ok (s.setChan i c) →
      field 0 i.val f = chan i c := fun i f c hf hw => written 0 i.val f _ (by omega) (by omega) hf hw
  have busOne : ∀ (b : Fin 64) (f : Nat) (x : Bus), f < 256 → s.writeBusField b.val f v = .ok (s.setBus b x) →
      field 1 b.val f = bus b x := fun b f x hf hw => written 1 b.val f _ (by omega) (by omega) hf hw
  refine ⟨fun i => ?_, fun i hv => ?_, fun i g hv => ?_, fun i hv => ⟨?_, ?_⟩, fun b => ?_, fun b hv => ?_,
    fun b t hv => ⟨fun ht => ?_, fun ht => ?_⟩, fun g => ?_, fun n hv => ⟨fun i => ?_, fun b => ?_, fun g => ?_⟩,
    fun t f ht hf => ?_, fun t f n hfree hv hn => ?_⟩
  · exact source i 0 _ (by omega) (ranged_index_val i _)
  · exact source i 1 _ (by omega) ((ranged_index_val i _).trans
      (ranged_octetValue? (n := 255) hv (by omega) (group?_taken (group := none) rfl) _))
  · exact source i 1 _ (by omega) ((ranged_index_val i _).trans
      (ranged_octetValue? hv (by omega) (group?_taken (group := some g) rfl) _))
  · exact source i 2 _ (by omega) ((ranged_index_val i _).trans (ranged_polarity? hv _))
  · refine source i 3 _ (by omega) ((ranged_index_val i _).trans ((ranged_bit? hv _).trans ?_))
    rw [Chan.setOpMute_eq]
    rfl
  · exact busOne b 1 _ (by omega) (ranged_index_val b _)
  · refine busOne b 2 _ (by omega) ((ranged_index_val b _).trans ((ranged_bit? hv _).trans ?_))
    rw [Bus.setMute_eq]
  · exact busOne b 0 _ (by omega) ((ranged_index_val b _).trans
      ((ranged_octet_index? (by omega) hv _).trans (if_pos ht)))
  · exact unwritten 1 b.val 0 .tier (by omega) (by omega) (by omega) ((ranged_index_val b _).trans
      ((ranged_octet_index? (by omega) hv _).trans (if_neg (Bool.eq_false_iff.1 ht))))
  · exact written 2 g.val 0 _ (by omega) (by omega) (by omega) (ranged_index_val g _)
  · exact source i 4 _ (by omega) ((ranged_index_val i _).trans (ranged_octet_index? (by omega) hv _))
  · exact busOne b 3 _ (by omega) ((ranged_index_val b _).trans (ranged_octet_index? (by omega) hv _))
  · exact written 2 g.val 1 _ (by omega) (by omega) (by omega) ((ranged_index_val g _).trans
      (ranged_octet_index? (by omega) hv _))
  · exact unwritten 5 t.val f .busy (by omega) (by omega) hf (s.writeEgressField_busy t ht f v)
  · intro old kind index rep cls
    have hput : s.writeOneField 5 t.val f.val v = s.putSlot t kind index rep cls := by
      obtain ⟨hkind, hindex, hreplay⟩ := old.use.numbers_eq
      have hk : (if f = 0 then n else old.use.kind) = kind := congrArg (fun x => if f = 0 then n else x) hkind
      have hi : (if f = 1 then n else old.use.index) = index := congrArg (fun x => if f = 1 then n else x) hindex
      have hr : (if f = 2 then n else old.use.replay) = rep := congrArg (fun x => if f = 2 then n else x) hreplay
      rw [hv, ← hk, ← hi, ← hr]
      exact s.writeEgressField_natCast t hfree f hn
    refine ⟨fun hr => ?_, fun slot hs => ?_⟩
    · exact unwritten 5 t.val f.val .range (by omega) (by omega) (by omega) (hput.trans (s.putSlot_refused t hr))
    · exact written 5 t.val f.val _ (by omega) (by omega) (by omega) (hput.trans (s.putSlot_made t hs))

end Sys2Proof.Machine
end

section
namespace Sys2Proof.Machine

/-! ### Applied events (R55, R69, R94, R128) -/

/-- R82, R94: a crosspoint is illegal in a bus row whose tier is not below its column's. -/
theorem State.legal_iff (s : State) (r : Fin 256) (c : Fin 64) :
    s.legal r c = true ↔ ¬∃ b : Fin 64, r.val = 192 + b.val ∧ s.buses[c].tier ≤ s.buses[b].tier := by
  unfold State.legal
  split
  · next hr => exact iff_of_true rfl fun ⟨b, hb, _⟩ => absurd hr (by omega)
  · next hr =>
    obtain ⟨b, hb⟩ : ∃ b : Fin 64, r.val = 192 + b.val := ⟨⟨r.val - 192, by omega⟩, by dsimp only; omega⟩
    have hrow : r.val - 192 = b.val := by omega
    simp only [hrow, decide_eq_true_eq]
    constructor
    · rintro hlt ⟨b', hb', hle⟩
      obtain rfl : b = b' := Fin.ext (by omega)
      exact absurd hlt (not_lt.2 hle)
    · intro hno
      by_contra hle
      exact hno ⟨b, hb, not_lt.1 hle⟩

theorem State.applyMove_xpTarget (s : State) (r : Fin 256) (c : Fin 64) (code : Int) (n : Fin 8) :
    s.applyMove (.xpTarget r c code n) =
      if s.legal r c = true ∨ code = -960 then s.writeXp r c code n else s.refuseEvent := by
  simp only [State.applyMove, Bool.or_eq_true, beq_iff_eq, offCode]

theorem Slot.isPunch_iff (t : Slot) : t.isPunch = true ↔ ∃ b p st k, t.use = .punch b p st k := by
  unfold Slot.isPunch
  cases t.use <;> simp

theorem State.applyMove_punch_refused (s : State) (t : Fin 128) (h : ∀ b p st k, s.egress[t].use ≠ .punch b p st k) :
    s.applyMove (.punchIn t) = s.refuseEvent ∧ s.applyMove (.punchOut t) = s.refuseEvent := by
  have hno : ¬s.egress[t].isPunch = true := fun hp => by
    obtain ⟨b, p, st, k, hu⟩ := (Slot.isPunch_iff _).1 hp
    exact h b p st k hu
  exact ⟨if_neg hno, if_neg hno⟩

section
variable (s : State) (t : Fin 128) (into : Bool)

/-- R122, R123: a request that the slot's state already meets changes nothing. -/
theorem State.punchRequest_stays (hu : s.egress[t].requested into = s.egress[t].use)
    (ha : s.egress[t].arrivesAtRequest into = false) : s.punchRequest t into = s := by
  have hset : s.egress.set t s.egress[t] = s.egress := Vector.set_getElem_self t.isLt
  simp only [State.punchRequest, hu, ha, hset, Bool.false_eq_true, if_false]

theorem State.punchRequest_turns {u : SlotUse} (hu : s.egress[t].requested into = u)
    (ha : s.egress[t].arrivesAtRequest into = false) :
    s.punchRequest t into = { s with egress := s.egress.set t { s.egress[t] with use := u } } := by
  simp only [State.punchRequest, hu, ha, Bool.false_eq_true, if_false]

/-- R120, R125: a request that the slot's state calls for is an arrival at once where the length is 0, and begins a
crossfade where it is not. -/
theorem State.punchRequest_leaves {u v : SlotUse}
    (hu : s.egress[t].requested into = if rampLen s.egress[t].cls = 0 then u else v)
    (ha : s.egress[t].arrivesAtRequest into = decide (rampLen s.egress[t].cls = 0)) :
    s.punchRequest t into =
      if rampLen s.egress[t].cls = 0 then
        { s with
          egress := s.egress.set t { s.egress[t] with use := u }
          report := s.report.setItem (.punch t) }
      else { s with egress := s.egress.set t { s.egress[t] with use := v } } := by
  by_cases h0 : rampLen s.egress[t].cls = 0
  · rw [if_pos h0] at hu
    rw [decide_eq_true h0] at ha
    rw [if_pos h0]
    simp only [State.punchRequest, hu, ha, if_true]
  · rw [if_neg h0] at hu
    rw [decide_eq_false h0] at ha
    rw [if_neg h0]
    exact s.punchRequest_turns t into hu ha

end

section
variable {t : Slot} {b : Fin 64} {p : Fin 192} {k : Nat}

theorem Slot.requested_replay (hu : t.use = .punch b p .replay k) (into : Bool) :
    t.requested into = (if into then (if t.len = 0 then .punch b p .live k else .punch b p .toLive k)
      else .punch b p .replay k) ∧
    t.arrivesAtRequest into = (into && t.len == 0) := by
  simp only [Slot.requested, Slot.arrivesAtRequest, hu, and_self]

theorem Slot.requested_live (hu : t.use = .punch b p .live k) (into : Bool) :
    t.requested into = (if into then .punch b p .live k
      else (if t.len = 0 then .punch b p .replay k else .punch b p .toReplay k)) ∧
    t.arrivesAtRequest into = (!into && t.len == 0) := by
  simp only [Slot.requested, Slot.arrivesAtRequest, hu, and_self]

theorem Slot.requested_toLive (hu : t.use = .punch b p .toLive k) (into : Bool) :
    t.requested into = .punch b p (if into then .toLive else .toReplay) k ∧ t.arrivesAtRequest into = false := by
  refine ⟨?_, by simp only [Slot.arrivesAtRequest, hu]⟩
  simp only [Slot.requested, hu]
  cases into <;> rfl

theorem Slot.requested_toReplay (hu : t.use = .punch b p .toReplay k) (into : Bool) :
    t.requested into = .punch b p (if into then .toLive else .toReplay) k ∧ t.arrivesAtRequest into = false := by
  refine ⟨?_, by simp only [Slot.arrivesAtRequest, hu]⟩
  simp only [Slot.requested, hu]
  cases into <;> rfl

end

/-- Settles O34: each kind of move is its owner's operation, written out by the lemma about that operation. -/
theorem appliedEventMoves : Obligations.AppliedEventMoves := by
  intro s restart discarded
  refine ⟨fun i code n => rfl, fun g code n => rfl, fun b code n => rfl, fun i on => ?_, fun b on => ?_,
    fun r c code n => ?_, fun t ht => s.applyMove_punch_refused t ht, fun t b p state k hu => ?_⟩
  · change s.setChan i (s.chans[i].setOpMute on (s.muted i)) = _
    rw [Chan.setOpMute_eq]
    rfl
  · change s.setBus b (s.buses[b].setMute on) = _
    rw [Bus.setMute_eq]
    rfl
  · intro illegal
    rw [State.applyMove_xpTarget]
    refine ⟨fun hi hcode => if_neg fun h => ?_, fun h => if_pos (h.imp_left (s.legal_iff r c).2)⟩
    exact h.elim (fun hl => (s.legal_iff r c).1 hl hi) hcode
  · intro turned arrived instant
    have hpunch : s.egress[t].isPunch = true := (Slot.isPunch_iff _).2 ⟨b, p, state, k, hu⟩
    have hin : s.applyMove (.punchIn t) = s.punchRequest t true := if_pos hpunch
    have hout : s.applyMove (.punchOut t) = s.punchRequest t false := if_pos hpunch
    rw [hin, hout]
    cases state with
    | replay =>
      obtain ⟨hr, ha⟩ := Slot.requested_replay hu true
      obtain ⟨hr', ha'⟩ := Slot.requested_replay hu false
      exact ⟨s.punchRequest_leaves t true hr ha, s.punchRequest_stays t false (hr'.trans hu.symm) ha'⟩
    | live =>
      obtain ⟨hr, ha⟩ := Slot.requested_live hu true
      obtain ⟨hr', ha'⟩ := Slot.requested_live hu false
      exact ⟨s.punchRequest_stays t true (hr.trans hu.symm) ha, s.punchRequest_leaves t false hr' ha'⟩
    | toLive =>
      obtain ⟨hr, ha⟩ := Slot.requested_toLive hu true
      obtain ⟨hr', ha'⟩ := Slot.requested_toLive hu false
      exact ⟨s.punchRequest_stays t true (hr.trans hu.symm) ha, s.punchRequest_turns t false hr' ha'⟩
    | toReplay =>
      obtain ⟨hr, ha⟩ := Slot.requested_toReplay hu true
      obtain ⟨hr', ha'⟩ := Slot.requested_toReplay hu false
      exact ⟨s.punchRequest_turns t true hr ha, s.punchRequest_stays t false (hr'.trans hu.symm) ha'⟩

end Sys2Proof.Machine
end

section
namespace Sys2Proof.Machine

/-! ### The engine reset, element by element (R54, R79, R100, R130) -/

theorem Chan.settle_eq (c : Chan) (muted : Bool) :
    c.settle muted = { c with
      trim := ⟨c.trim.target, c.trim.target, 0, 0⟩
      mute := if muted = true ∨ c.opMute = true then ⟨-960, -960, 0, 0⟩ else ⟨0, 0, 0, 0⟩ } := by
  unfold Chan.settle
  by_cases h : muted = true ∨ c.opMute = true
  · rw [if_pos h, if_pos (Bool.or_eq_true_iff.2 h)]
    rfl
  · rw [if_neg h, if_neg (mt Bool.or_eq_true_iff.1 h)]
    rfl

theorem Bus.settle_eq (b : Bus) :
    b.settle = { b with
      level := ⟨b.level.target, b.level.target, 0, 0⟩
      muteRamp := if b.muted then ⟨-960, -960, 0, 0⟩ else ⟨0, 0, 0, 0⟩
      clipping := false } := by
  unfold Bus.settle
  cases b.muted <;> rfl

theorem Slot.settle_eq (t : Slot) :
    t.settle = { t with
      use := match t.use with
        | .punch b p .toLive _ => .punch b p .live (rampLen t.cls)
        | .punch b p .toReplay _ => .punch b p .replay 0
        | u => u } := by
  obtain ⟨use, cls⟩ := t
  cases use with
  | punch b p state k => cases state <;> rfl
  | _ => rfl

theorem Sweep.busy_iff (w : Sweep) : w.busy = true ↔ w ≠ .idle := by
  cases w <;> simp [Sweep.busy]

theorem exec_engineReset {s : State} (h : s.ready) (tag : Octet) :
    exec (.engineReset tag []) s = .next (s.engineReset.respond 0x90#8 tag [0x00#8]) := by
  have he : exec (.engineReset tag []) s = .next (s.submit ⟨0x10#8, tag, []⟩) := rfl
  rw [he, State.submit_ready _ _ h, State.execute_reply s s.engineReset ⟨0x10#8, tag, []⟩ [0x00#8] rfl]
  rfl

/-- Settles O41: `State.engineReset` answers the command, and every element of its tables is its owner's `settle`. -/
theorem engineResetSettlesEngine : Obligations.EngineResetSettlesEngine := by
  intro s tag hready
  refine ⟨s.engineReset, exec_engineReset hready tag, rfl, fun i => ?_, fun g => ?_, fun b => ?_, rfl, rfl, fun r c => ?_,
    fun i => ?_⟩
  · simp only [State.engineReset, Fin.getElem_fin, Vector.getElem_ofFn]
    exact Chan.settle_eq _ _
  · simp only [State.engineReset, Fin.getElem_fin, mapAll_getElem]
    rfl
  · simp only [State.engineReset, Fin.getElem_fin, mapAll_getElem]
    exact Bus.settle_eq _
  · change (s.matrix.settle s.sweep.busy).cell r c = _
    rw [Matrix.settle_cell]
    by_cases hidle : s.sweep = .idle
    · rw [if_pos hidle, hidle]
      rfl
    · rw [if_neg hidle, (Sweep.busy_iff _).2 hidle]
      rfl
  · simp only [State.engineReset, Fin.getElem_fin, mapAll_getElem]
    exact Slot.settle_eq _

end Sys2Proof.Machine
end

section
namespace Sys2Proof.Machine

/-! ### The arithmetic of a sample (R46, R106 to R110, R121) -/

theorem scaleHalfUp_bounds (p : Int) : 65536 * scaleHalfUp p ≤ p + 32768 ∧ p + 32768 < 65536 * (scaleHalfUp p + 1) := by
  unfold scaleHalfUp
  omega

/-- Saturation takes effect on the samples outside 24 bits. -/
theorem sat24_ne_iff (x : Int) : sat24 x ≠ x ↔ x < -8388608 ∨ 8388607 < x := by
  unfold sat24 clampInt
  split
  · omega
  · split <;> omega

theorem sat24_scaleHalfUp_ne_iff (p : Int) :
    sat24 (scaleHalfUp p) ≠ scaleHalfUp p ↔ 549755813888 ≤ p + 32768 ∨ p + 32768 < -549755813888 := by
  have := scaleHalfUp_bounds p
  rw [sat24_ne_iff]
  omega

/-- R110: a bus clips when the saturation of its sum or that of its level takes effect. -/
theorem busResult_clipped_iff (acc : Int) (g : Nat) :
    (busResult acc g).clipped = true ↔
      sat24 (scaleHalfUp acc) ≠ scaleHalfUp acc ∨
        sat24 (scaleHalfUp (sat24 (scaleHalfUp acc) * (g : Int))) ≠ scaleHalfUp (sat24 (scaleHalfUp acc) * (g : Int)) := by
  simp only [busResult, Bool.or_eq_true, bne_iff_ne]

theorem polarise_inverted {x : Int} (h1 : -8388608 ≤ x) (h2 : x ≤ 8388607) :
    polarise .inverted x = if x = -8388608 then 8388607 else -x := by
  unfold polarise sat24 clampInt
  dsimp only
  split
  · omega
  · split <;> split <;> omega

/-- Rounded half up: the quotient of a doubled number plus the length by the doubled length. -/
theorem crossfade_bounds (v p : Int) (k : Nat) {len : Nat} (h : 0 < len) :
    2 * (len : Int) * crossfade v p k len ≤ 2 * (v * (k : Int) + p * ((len : Int) - (k : Int))) + len ∧
    2 * (v * (k : Int) + p * ((len : Int) - (k : Int))) + len < 2 * (len : Int) * (crossfade v p k len + 1) := by
  have hpos : (0 : Int) < 2 * (len : Int) := by omega
  exact ⟨Int.mul_ediv_self_le hpos.ne', (Int.lt_mul_ediv_self_add hpos).trans_eq (mul_add_one _ _).symm⟩

/-- A weighted sum of two samples lies between the lower and the higher of them taken `len` times. -/
theorem weighted_bounds (v p : Int) {k len : Nat} (h : k ≤ len) :
    (len : Int) * min v p ≤ v * (k : Int) + p * ((len : Int) - (k : Int)) ∧
    v * (k : Int) + p * ((len : Int) - (k : Int)) ≤ (len : Int) * max v p := by
  have hk : (0 : Int) ≤ k := Int.natCast_nonneg k
  have hrest : (0 : Int) ≤ (len : Int) - k := by omega
  constructor
  · calc (len : Int) * min v p = min v p * k + min v p * (len - k) := by ring
      _ ≤ v * k + p * (len - k) :=
        add_le_add (mul_le_mul_of_nonneg_right (min_le_left v p) hk) (mul_le_mul_of_nonneg_right (min_le_right v p) hrest)
  · calc v * k + p * (len - k) ≤ max v p * k + max v p * (len - k) :=
        add_le_add (mul_le_mul_of_nonneg_right (le_max_left v p) hk) (mul_le_mul_of_nonneg_right (le_max_right v p) hrest)
      _ = (len : Int) * max v p := by ring

theorem le_crossfade {v p a : Int} {k len : Nat} (h : 0 < len)
    (ha : (len : Int) * a ≤ v * (k : Int) + p * ((len : Int) - (k : Int))) : a ≤ crossfade v p k len := by
  have hbound := (crossfade_bounds v p k h).2
  have hlt : (len : Int) * (2 * a) < len * (2 * crossfade v p k len + 2) := by linarith
  have := lt_of_mul_lt_mul_left hlt (Int.natCast_nonneg len)
  omega

theorem crossfade_le {v p a : Int} {k len : Nat} (h : 0 < len)
    (ha : v * (k : Int) + p * ((len : Int) - (k : Int)) ≤ (len : Int) * a) : crossfade v p k len ≤ a := by
  have hbound := (crossfade_bounds v p k h).1
  have hle : (len : Int) * (2 * crossfade v p k len) ≤ len * (2 * a + 1) := by linarith
  have := le_of_mul_le_mul_left hle (Int.natCast_pos.2 h)
  omega

theorem crossfade_eq {v p a : Int} {k len : Nat} (h : 0 < len)
    (ha : v * (k : Int) + p * ((len : Int) - (k : Int)) = (len : Int) * a) : crossfade v p k len = a :=
  le_antisymm (crossfade_le h ha.le) (le_crossfade h ha.ge)

/-- Settles O50: scaling by its bounds, clips by where a saturation takes effect, and the crossfade by the bounds of its
weighted sum. -/
theorem sampleArithmetic : Obligations.SampleArithmetic := by
  refine ⟨scaleHalfUp_bounds, fun acc g => ?_, fun x h1 h2 => ⟨rfl, polarise_inverted h1 h2⟩, fun v p k len h hk => ?_⟩
  · intro s y
    refine ⟨rfl, ?_⟩
    have hsum : sat24 (scaleHalfUp acc) ≠ scaleHalfUp acc ↔ 549755781120 ≤ acc ∨ acc < -549755846656 := by
      rw [sat24_scaleHalfUp_ne_iff]
      omega
    rw [busResult_clipped_iff, hsum, sat24_scaleHalfUp_ne_iff, or_assoc]
    exact Iff.rfl
  · obtain ⟨hlow, hhigh⟩ := crossfade_bounds v p k h
    obtain ⟨hmin, hmax⟩ := weighted_bounds v p hk
    exact ⟨hlow, hhigh, le_crossfade h hmin, crossfade_le h hmax, crossfade_eq h (by ring),
      crossfade_eq h (by push_cast; ring)⟩

end Sys2Proof.Machine
end

section
namespace Sys2Proof.Machine

/-! ### The entries of a pool and their number (R70) -/

theorem Matrix.entry_congr {m m' : Matrix} (h : m'.pool = m.pool) (r : Fin 256) (c : Fin 64) :
    m'.entry r c = m.entry r c := by
  rw [Matrix.entry, Matrix.entry, h]

/-- A crosspoint has no entry when none in use is at it. -/
theorem Matrix.entry_eq_none {m : Matrix} {r : Fin 256} {c : Fin 64} :
    m.entry r c = none ↔ ∀ e ∈ m.pool, ¬(e.row = r ∧ e.col = c) := by
  simp [Matrix.entry]

/-- In a pool in order a crosspoint has one entry at most. -/
theorem poolSorted.eq_of_at {l : List PoolEntry} (h : poolSorted l) {e f : PoolEntry} (he : e ∈ l) (hf : f ∈ l)
    (hr : f.row = e.row) (hc : f.col = e.col) : f = e := by
  have hnodup : (l.map fun e => xpKey e.row e.col).Nodup := List.pairwise_map.2 (h.imp Nat.ne_of_lt)
  exact List.inj_on_of_nodup_map hnodup hf he (by rw [hr, hc])

theorem Matrix.entry_of_mem {m : Matrix} (h : poolSorted m.pool) {e : PoolEntry} (he : e ∈ m.pool) :
    m.entry e.row e.col = some e := by
  cases hf : m.entry e.row e.col with
  | none => exact absurd ⟨rfl, rfl⟩ (Matrix.entry_eq_none.1 hf e he)
  | some f =>
    obtain ⟨hmem, hr, hc⟩ := Matrix.entry_some hf
    rw [h.eq_of_at he hmem hr hc]

theorem insertEntry_length_of_absent (e : PoolEntry) (l : List PoolEntry) (h : ∀ f ∈ l, ¬(f.row = e.row ∧ f.col = e.col)) :
    (insertEntry e l).length = l.length + 1 := by
  induction l with
  | nil => rfl
  | cons f rest ih =>
    obtain ⟨hf, hrest⟩ := List.forall_mem_cons.1 h
    unfold insertEntry
    split
    · rw [List.length_cons, ih hrest, List.length_cons]
    · rw [if_neg (mt (f.isAt_iff _ _).1 hf)]
      rfl

theorem insertEntry_length_of_present (e : PoolEntry) {l : List PoolEntry} (hs : poolSorted l) {f : PoolEntry} (hf : f ∈ l)
    (hat : f.row = e.row ∧ f.col = e.col) : (insertEntry e l).length = l.length := by
  induction l with
  | nil => exact nomatch hf
  | cons g rest ih =>
    obtain ⟨hg, hrest⟩ := List.pairwise_cons.1 hs
    have hkey : xpKey f.row f.col = xpKey e.row e.col := by rw [hat.1, hat.2]
    unfold insertEntry
    rcases List.mem_cons.1 hf with rfl | hmem
    · rw [if_neg (by omega), if_pos ((f.isAt_iff _ _).2 hat)]
      rfl
    · rw [if_pos (hkey ▸ hg f hmem), List.length_cons, ih hrest hmem, List.length_cons]

theorem Matrix.putEntry_length_of_none {m : Matrix} {e : PoolEntry} (h : m.entry e.row e.col = none) :
    (m.putEntry e).pool.length = m.pool.length + 1 :=
  insertEntry_length_of_absent e m.pool (Matrix.entry_eq_none.1 h)

theorem Matrix.putEntry_length_of_some {m : Matrix} (hs : poolSorted m.pool) {e f : PoolEntry}
    (h : m.entry e.row e.col = some f) : (m.putEntry e).pool.length = m.pool.length := by
  obtain ⟨hmem, hat⟩ := Matrix.entry_some h
  exact insertEntry_length_of_present e hs hmem hat

/-- A dropped entry frees one of the pool. -/
theorem Matrix.dropEntry_length {m : Matrix} (hs : poolSorted m.pool) {r : Fin 256} {c : Fin 64} {e : PoolEntry}
    (h : m.entry r c = some e) : (m.dropEntry r c).pool.length + 1 = m.pool.length := by
  obtain ⟨hmem, hr, hc⟩ := Matrix.entry_some h
  have hat : ∀ f ∈ m.pool, f.isAt r c = (f == e) := fun f hf => by
    rw [Bool.eq_iff_iff, f.isAt_iff, beq_iff_eq]
    exact ⟨fun hf' => hs.eq_of_at hmem hf (hf'.1.trans hr.symm) (hf'.2.trans hc.symm), fun he => he ▸ ⟨hr, hc⟩⟩
  have hnodup : m.pool.Nodup := hs.imp fun hlt heq => absurd (heq ▸ hlt) (Nat.lt_irrefl _)
  have hdrop : m.pool.filter (fun f => !f.isAt r c) = m.pool.erase e := by
    rw [hnodup.erase_eq_filter]
    exact List.filter_congr fun f hf => congrArg Bool.not (hat f hf)
  have hpos := List.length_pos_of_mem hmem
  rw [Matrix.dropEntry]
  dsimp only
  rw [hdrop, List.length_erase_of_mem hmem]
  omega

theorem Matrix.dropEntry_sorted {m : Matrix} (h : poolSorted m.pool) (r : Fin 256) (c : Fin 64) :
    poolSorted (m.dropEntry r c).pool := h.sublist List.filter_sublist

/-! ### Pool, pending list and crosspoints in agreement (R70, R71, R80) -/

/-- The list holds the crosspoint. -/
def waitsAt (l : List Waiting) (r : Fin 256) (c : Fin 64) : Prop := ∃ w ∈ l, w.row = r ∧ w.col = c

/-- R71: a list that could be the pending list. -/
def waitingOk (l : List Waiting) : Prop :=
  (l.Pairwise fun v w => ¬(v.row = w.row ∧ v.col = w.col)) ∧ ∀ w ∈ l, w.cls ≠ 0

/-- R70, R80: what the pool and a crosspoint say of each other: its entry is an unfinished ramp of class 1..7 that it stands
on, and without one it is at its target unless it is pending. -/
def Matrix.XpOk (m : Matrix) (r : Fin 256) (c : Fin 64) : Prop :=
  (∀ e, m.entry r c = some e → 48 ≤ e.ramp.len ∧ e.ramp.len ≤ 4800 ∧ e.ramp.k < e.ramp.len ∧
    m.cell r c = ⟨e.ramp.cur, e.ramp.target, false⟩) ∧
  (m.entry r c = none → (m.cell r c).pend = false → (m.cell r c).cur = (m.cell r c).tgt)

/-- `MatrixOk`, crosspoint by crosspoint, without its clause that no crosspoint waits while an entry is free. -/
structure Matrix.Agrees (m : Matrix) : Prop where
  size : m.pool.length ≤ 1024
  sorted : poolSorted m.pool
  xp : ∀ r c, m.XpOk r c
  list : waitingOk m.waiting
  marks : ∀ r c, (m.cell r c).pend = true ↔ waitsAt m.waiting r c

theorem matrixOk_iff (m : Matrix) : MatrixOk m ↔ m.Agrees ∧ (m.waiting ≠ [] → m.pool.length = 1024) := by
  constructor
  · rintro ⟨hsize, hsorted, hpool, hdistinct, hwaiting, hfull, hlisted, hstanding⟩
    refine ⟨⟨hsize, hsorted, fun r c => ⟨fun e he => ?_, hstanding r c⟩, ⟨hdistinct, fun w hw => (hwaiting w hw).1⟩,
      fun r c => ⟨hlisted r c, ?_⟩⟩, hfull⟩
    · obtain ⟨hmem, rfl, rfl⟩ := Matrix.entry_some he
      exact hpool e hmem
    · rintro ⟨w, hw, rfl, rfl⟩
      exact (hwaiting w hw).2
  · rintro ⟨⟨hsize, hsorted, hxp, ⟨hdistinct, hcls⟩, hmarks⟩, hfull⟩
    exact ⟨hsize, hsorted, fun e he => (hxp _ _).1 e (Matrix.entry_of_mem hsorted he), hdistinct,
      fun w hw => ⟨hcls w hw, (hmarks _ _).2 ⟨w, hw, rfl, rfl⟩⟩, hfull, fun r c => (hmarks r c).1, fun r c => (hxp r c).2⟩

theorem MatrixOk.agrees {m : Matrix} (h : MatrixOk m) : m.Agrees := ((matrixOk_iff m).1 h).1

theorem MatrixOk.full {m : Matrix} (h : MatrixOk m) : m.waiting ≠ [] → m.pool.length = 1024 := ((matrixOk_iff m).1 h).2

/-- A crosspoint with an entry does not wait for one. -/
theorem Matrix.Agrees.not_waits {m : Matrix} (h : m.Agrees) {r : Fin 256} {c : Fin 64} {e : PoolEntry}
    (he : m.entry r c = some e) : ¬waitsAt m.waiting r c := fun hw => by
  have hcell := ((h.xp r c).1 e he).2.2.2
  have hpend := (h.marks r c).2 hw
  rw [hcell] at hpend
  exact nomatch hpend

theorem Matrix.Agrees.entry_of_waits {m : Matrix} (h : m.Agrees) {r : Fin 256} {c : Fin 64} (hw : waitsAt m.waiting r c) :
    m.entry r c = none :=
  Option.eq_none_iff_forall_ne_some.2 fun _ he => h.not_waits he hw

/-- Cells and entries are the same but at one crosspoint. -/
def Matrix.SameBut (m m' : Matrix) (r : Fin 256) (c : Fin 64) : Prop :=
  ∀ r' c', ¬(r' = r ∧ c' = c) → m'.cell r' c' = m.cell r' c' ∧ m'.entry r' c' = m.entry r' c'

theorem Matrix.SameBut.trans {m m1 m2 : Matrix} {r : Fin 256} {c : Fin 64} (h : m.SameBut m1 r c) (k : m1.SameBut m2 r c) :
    m.SameBut m2 r c := fun r' c' hne =>
  ⟨(k r' c' hne).1.trans (h r' c' hne).1, (k r' c' hne).2.trans (h r' c' hne).2⟩

theorem Matrix.sameBut_setCell (m : Matrix) (r : Fin 256) (c : Fin 64) (x : Xp) : m.SameBut (m.setCell r c x) r c :=
  fun r' c' hne => ⟨by rw [Matrix.setCell_cell, if_neg hne], rfl⟩

theorem Matrix.sameBut_putEntry (m : Matrix) (e : PoolEntry) : m.SameBut (m.putEntry e) e.row e.col :=
  fun r' c' hne => ⟨rfl, by rw [Matrix.putEntry_entry, if_neg fun h => hne ⟨h.1.symm, h.2.symm⟩]⟩

theorem Matrix.sameBut_dropEntry (m : Matrix) (r : Fin 256) (c : Fin 64) : m.SameBut (m.dropEntry r c) r c :=
  fun r' c' hne => ⟨rfl, by rw [Matrix.dropEntry_entry, if_neg hne]⟩

/-- A crosspoint's cell and its entry, written together. -/
def Matrix.enter (m : Matrix) (r : Fin 256) (c : Fin 64) (x : Xp) (p : Ramp) : Matrix := (m.setCell r c x).putEntry ⟨r, c, p⟩

section
variable (m : Matrix) (r : Fin 256) (c : Fin 64) (x : Xp) (p : Ramp)

theorem Matrix.sameBut_enter : m.SameBut (m.enter r c x p) r c :=
  (m.sameBut_setCell r c x).trans (Matrix.sameBut_putEntry _ ⟨r, c, p⟩)

theorem Matrix.enter_cell : (m.enter r c x p).cell r c = x := Matrix.setCell_cell_self m r c x

theorem Matrix.enter_entry : (m.enter r c x p).entry r c = some ⟨r, c, p⟩ :=
  (Matrix.putEntry_entry _ _ _ _).trans (if_pos ⟨rfl, rfl⟩)

theorem Matrix.enter_sorted {m : Matrix} (h : poolSorted m.pool) : poolSorted (m.enter r c x p).pool :=
  insertEntry_sorted _ _ h

theorem Matrix.enter_length_of_none {m : Matrix} {r : Fin 256} {c : Fin 64} (h : m.entry r c = none) :
    (m.enter r c x p).pool.length = m.pool.length + 1 :=
  Matrix.putEntry_length_of_none (m := m.setCell r c x) (e := ⟨r, c, p⟩) h

theorem Matrix.enter_length_of_some {m : Matrix} {r : Fin 256} {c : Fin 64} {e : PoolEntry} (hs : poolSorted m.pool)
    (h : m.entry r c = some e) : (m.enter r c x p).pool.length = m.pool.length :=
  Matrix.putEntry_length_of_some (m := m.setCell r c x) (e := ⟨r, c, p⟩) hs h

end

/-- A change at one crosspoint keeps the agreement when it does so there, and the pending list holds the other crosspoints as
before. -/
theorem Matrix.Agrees.changed {m m' : Matrix} (h : m.Agrees) {r : Fin 256} {c : Fin 64} (hsame : m.SameBut m' r c)
    (hsize : m'.pool.length ≤ 1024) (hsorted : poolSorted m'.pool) (hxp : m'.XpOk r c) (hlist : waitingOk m'.waiting)
    (hmark : (m'.cell r c).pend = true ↔ waitsAt m'.waiting r c)
    (hwaits : ∀ r' c', ¬(r' = r ∧ c' = c) → (waitsAt m'.waiting r' c' ↔ waitsAt m.waiting r' c')) : m'.Agrees := by
  refine ⟨hsize, hsorted, fun r' c' => ?_, hlist, fun r' c' => ?_⟩
  · by_cases hat : r' = r ∧ c' = c
    · obtain ⟨rfl, rfl⟩ := hat
      exact hxp
    · obtain ⟨hcell, hentry⟩ := hsame r' c' hat
      unfold Matrix.XpOk
      rw [hcell, hentry]
      exact h.xp r' c'
  · by_cases hat : r' = r ∧ c' = c
    · obtain ⟨rfl, rfl⟩ := hat
      exact hmark
    · rw [(hsame r' c' hat).1, hwaits r' c' hat]
      exact h.marks r' c'

/-- The same with the pending list as it was, the crosspoint's place on it included. -/
theorem Matrix.Agrees.changed_in_place {m m' : Matrix} (h : m.Agrees) {r : Fin 256} {c : Fin 64} (hsame : m.SameBut m' r c)
    (hsize : m'.pool.length ≤ 1024) (hsorted : poolSorted m'.pool) (hxp : m'.XpOk r c) (hwaiting : m'.waiting = m.waiting)
    (hpend : (m'.cell r c).pend = (m.cell r c).pend) : m'.Agrees :=
  h.changed hsame hsize hsorted hxp (hwaiting ▸ h.list) (by rw [hpend, hwaiting]; exact h.marks r c)
    fun _ _ _ => by rw [hwaiting]

theorem rampLen_of_ne_zero {n : Fin 8} (h : n ≠ 0) : 48 ≤ rampLen n ∧ rampLen n ≤ 4800 := by
  revert n
  decide

/-- A ramp that begins at a crosspoint's current code stands there. -/
theorem Ramp.cur_begun (a t : Int) {len : Nat} (h : 0 < len) : (Ramp.mk a t len 0).cur = a := by
  simp [Ramp.cur, Nat.not_le.2 h]

/-- A crosspoint that has been given an entry whose ramp begins at its current code. -/
theorem Matrix.xpOk_entered {m : Matrix} {r : Fin 256} {c : Fin 64} {a t : Int} {n : Fin 8} (hn : n ≠ 0)
    (he : m.entry r c = some ⟨r, c, ⟨a, t, rampLen n, 0⟩⟩) (hcell : m.cell r c = ⟨a, t, false⟩) : m.XpOk r c := by
  obtain ⟨h1, h2⟩ := rampLen_of_ne_zero hn
  refine ⟨fun e h => ?_, fun h => nomatch h.symm.trans he⟩
  obtain rfl := Option.some.inj (he.symm.trans h)
  refine ⟨h1, h2, by dsimp only; omega, ?_⟩
  rw [Ramp.cur_begun a t (by omega)]
  exact hcell

/-- A crosspoint that has no entry and stands at its target. -/
theorem Matrix.xpOk_standing {m : Matrix} {r : Fin 256} {c : Fin 64} (he : m.entry r c = none)
    (hcell : (m.cell r c).cur = (m.cell r c).tgt) : m.XpOk r c :=
  ⟨fun _ h => (nomatch he.symm.trans h), fun _ _ => hcell⟩

/-- A crosspoint that has no entry and is pending. -/
theorem Matrix.xpOk_pending {m : Matrix} {r : Fin 256} {c : Fin 64} (he : m.entry r c = none)
    (hcell : (m.cell r c).pend = true) : m.XpOk r c :=
  ⟨fun _ h => (nomatch he.symm.trans h), fun _ h => nomatch hcell.symm.trans h⟩

/-! ### The hand-out (R76) -/

theorem waitsAt_cons {w : Waiting} {ws : List Waiting} {r : Fin 256} {c : Fin 64} (h : ¬(r = w.row ∧ c = w.col)) :
    waitsAt (w :: ws) r c ↔ waitsAt ws r c := by
  simp only [waitsAt, List.exists_mem_cons_iff]
  exact or_iff_right fun e => h ⟨e.1.symm, e.2.symm⟩

/-- The head of a pending list has no second place on it. -/
theorem waitingOk.head_once {w : Waiting} {ws : List Waiting} (h : waitingOk (w :: ws)) : ¬waitsAt ws w.row w.col := by
  rintro ⟨v, hv, hr, hc⟩
  exact (List.pairwise_cons.1 h.1).1 v hv ⟨hr.symm, hc.symm⟩

theorem waitingOk.tail {w : Waiting} {ws : List Waiting} (h : waitingOk (w :: ws)) : waitingOk ws :=
  ⟨(List.pairwise_cons.1 h.1).2, (List.forall_mem_cons.1 h.2).2⟩

/-- The waiting crosspoint's cell, its pending mark taken off. -/
def Matrix.unmarked (m : Matrix) (w : Waiting) : Xp := { m.cell w.row w.col with pend := false }

/-- The ramp that a waiting crosspoint is given with an entry (R76). -/
def Matrix.rampFor (m : Matrix) (w : Waiting) : Ramp := ⟨(m.cell w.row w.col).cur, (m.cell w.row w.col).tgt, rampLen w.cls, 0⟩

theorem Matrix.handOutTo_cons (w : Waiting) (ws : List Waiting) (m : Matrix) :
    Matrix.handOutTo (w :: ws) m =
      if (m.cell w.row w.col).cur = (m.cell w.row w.col).tgt then
        Matrix.handOutTo ws (m.setCell w.row w.col (m.unmarked w))
      else { m.enter w.row w.col (m.unmarked w) (m.rampFor w) with waiting := ws } := rfl

/-- Taking a pending mark off changes no code. -/
theorem Matrix.unmarked_codes (m : Matrix) (w : Waiting) (r : Fin 256) (c : Fin 64) :
    ((m.setCell w.row w.col (m.unmarked w)).cell r c).cur = (m.cell r c).cur ∧
      ((m.setCell w.row w.col (m.unmarked w)).cell r c).tgt = (m.cell r c).tgt := by
  rw [Matrix.setCell_cell]
  split
  · next hat =>
    obtain ⟨rfl, rfl⟩ := hat
    exact ⟨rfl, rfl⟩
  · exact ⟨rfl, rfl⟩

/-- A hand-out reaches the crosspoints of the list alone. -/
theorem Matrix.handOutTo_elsewhere (l : List Waiting) (m : Matrix) {r : Fin 256} {c : Fin 64} (h : ¬waitsAt l r c) :
    (Matrix.handOutTo l m).cell r c = m.cell r c ∧ (Matrix.handOutTo l m).entry r c = m.entry r c := by
  induction l generalizing m with
  | nil => exact ⟨rfl, rfl⟩
  | cons w ws ih =>
    have hw : ¬(r = w.row ∧ c = w.col) := fun e => h ⟨w, List.mem_cons_self, e.1.symm, e.2.symm⟩
    rw [Matrix.handOutTo_cons]
    split
    · obtain ⟨hcell, hentry⟩ := ih (m.setCell w.row w.col (m.unmarked w)) (mt (waitsAt_cons hw).2 h)
      obtain ⟨kcell, kentry⟩ := m.sameBut_setCell w.row w.col (m.unmarked w) r c hw
      exact ⟨hcell.trans kcell, hentry.trans kentry⟩
    · exact m.sameBut_enter w.row w.col (m.unmarked w) (m.rampFor w) r c hw

section
variable {m : Matrix} {w : Waiting} {ws : List Waiting} (h : { m with waiting := w :: ws }.Agrees)
include h

theorem Matrix.Agrees.head_entry : m.entry w.row w.col = none := h.entry_of_waits ⟨w, List.mem_cons_self, rfl, rfl⟩

/-- A pending crosspoint at its target leaves the list without an entry (R76). -/
theorem Matrix.Agrees.head_leaves (heq : (m.cell w.row w.col).cur = (m.cell w.row w.col).tgt) :
    { m.setCell w.row w.col (m.unmarked w) with waiting := ws }.Agrees := by
  have hcell : (m.setCell w.row w.col (m.unmarked w)).cell w.row w.col = m.unmarked w := m.setCell_cell_self _ _ _
  refine h.changed (m.sameBut_setCell w.row w.col _) h.size h.sorted (Matrix.xpOk_standing h.head_entry ?_) h.list.tail
    (iff_of_false ?_ h.list.head_once) fun r c hne => (waitsAt_cons hne).symm
  · exact (congrArg Xp.cur hcell).trans (heq.trans (congrArg Xp.tgt hcell).symm)
  · exact fun hp => nomatch (congrArg Xp.pend hcell).symm.trans hp

/-- A pending crosspoint that is given an entry (R76). -/
theorem Matrix.Agrees.head_enters (hroom : m.pool.length < 1024) :
    { m.enter w.row w.col (m.unmarked w) (m.rampFor w) with waiting := ws }.Agrees := by
  have hcell := m.enter_cell w.row w.col (m.unmarked w) (m.rampFor w)
  have hentry := m.enter_entry w.row w.col (m.unmarked w) (m.rampFor w)
  have hlen := Matrix.enter_length_of_none (m.unmarked w) (m.rampFor w) h.head_entry
  refine h.changed (m.sameBut_enter w.row w.col (m.unmarked w) (m.rampFor w)) (hlen.trans_le hroom)
    (Matrix.enter_sorted _ _ _ _ h.sorted) (Matrix.xpOk_entered (h.list.2 w List.mem_cons_self) hentry hcell) h.list.tail
    (iff_of_false ?_ h.list.head_once) fun r c hne => (waitsAt_cons hne).symm
  exact fun hp => nomatch (congrArg Xp.pend hcell).symm.trans hp

end

/-- A hand-out keeps the agreement, and uses the free entry when it leaves a crosspoint waiting (R76). -/
theorem Matrix.Agrees.handOutTo (l : List Waiting) {m : Matrix} (h : { m with waiting := l }.Agrees)
    (hroom : m.pool.length < 1024) :
    (Matrix.handOutTo l m).Agrees ∧
      ((Matrix.handOutTo l m).waiting ≠ [] → (Matrix.handOutTo l m).pool.length = m.pool.length + 1) := by
  induction l generalizing m with
  | nil => exact ⟨h, fun hne => absurd rfl hne⟩
  | cons w ws ih =>
    rw [Matrix.handOutTo_cons]
    split
    · next heq => exact ih (h.head_leaves heq) hroom
    · exact ⟨h.head_enters hroom, fun _ => Matrix.enter_length_of_none (m.unmarked w) (m.rampFor w) h.head_entry⟩

/-- When every waiting crosspoint is at its target, the list empties and the entry stays free (R76). -/
theorem Matrix.handOutTo_none (l : List Waiting) (m : Matrix)
    (h : ∀ w ∈ l, (m.cell w.row w.col).cur = (m.cell w.row w.col).tgt) :
    (Matrix.handOutTo l m).waiting = [] ∧ (Matrix.handOutTo l m).pool = m.pool := by
  induction l generalizing m with
  | nil => exact ⟨rfl, rfl⟩
  | cons w ws ih =>
    obtain ⟨hw, hws⟩ := List.forall_mem_cons.1 h
    rw [Matrix.handOutTo_cons, if_pos hw]
    refine ih _ fun v hv => ?_
    rw [(m.unmarked_codes w _ _).1, (m.unmarked_codes w _ _).2]
    exact hws v hv

/-- The oldest waiting crosspoint whose current code differs from its target has the entry (R76). -/
theorem Matrix.handOutTo_first (before : List Waiting) (w : Waiting) (after : List Waiting) (m : Matrix)
    (hb : ∀ v ∈ before, (m.cell v.row v.col).cur = (m.cell v.row v.col).tgt)
    (hw : (m.cell w.row w.col).cur ≠ (m.cell w.row w.col).tgt) :
    (Matrix.handOutTo (before ++ w :: after) m).waiting = after ∧
      (Matrix.handOutTo (before ++ w :: after) m).pool = (m.putEntry ⟨w.row, w.col, m.rampFor w⟩).pool := by
  induction before generalizing m with
  | nil =>
    rw [List.nil_append, Matrix.handOutTo_cons, if_neg hw]
    exact ⟨rfl, rfl⟩
  | cons v vs ih =>
    obtain ⟨hv, hvs⟩ := List.forall_mem_cons.1 hb
    have hcodes := m.unmarked_codes v
    rw [List.cons_append, Matrix.handOutTo_cons, if_pos hv]
    have hrest := ih (m.setCell v.row v.col (m.unmarked v))
      (fun u hu => by rw [(hcodes _ _).1, (hcodes _ _).2]; exact hvs u hu)
      (by rw [(hcodes _ _).1, (hcodes _ _).2]; exact hw)
    rw [Matrix.rampFor, (hcodes _ _).1, (hcodes _ _).2] at hrest
    exact hrest

end Sys2Proof.Machine
end

section
namespace Sys2Proof.Machine

/-! ### A target with class 0 (R72, R76) -/

/-- The crosspoint stands at `t`, and its entry is free. -/
def Matrix.freeAt (m : Matrix) (r : Fin 256) (c : Fin 64) (t : Int) : Matrix := (m.setCell r c ⟨t, t, false⟩).dropEntry r c

theorem Matrix.stepTo_of_some {m : Matrix} {r : Fin 256} {c : Fin 64} {e : PoolEntry} (h : m.entry r c = some e) (t : Int) :
    m.stepTo r c t = Matrix.handOutTo m.waiting (m.freeAt r c t) := by
  rw [Matrix.stepTo, h]
  rfl

theorem Matrix.stepTo_of_none {m : Matrix} {r : Fin 256} {c : Fin 64} (h : m.entry r c = none) (t : Int) :
    m.stepTo r c t =
      { m.setCell r c ⟨t, t, false⟩ with waiting := m.waiting.filter fun w => decide ¬(w.row = r ∧ w.col = c) } := by
  rw [Matrix.stepTo, h]
  dsimp only
  congr 1
  refine List.filter_congr fun w _ => ?_
  rw [Bool.eq_iff_iff, Bool.not_eq_true', decide_eq_true_eq, ← Waiting.isAt_iff, Bool.not_eq_true]

theorem Matrix.freeAt_cell (m : Matrix) (r : Fin 256) (c : Fin 64) (t : Int) : (m.freeAt r c t).cell r c = ⟨t, t, false⟩ :=
  Matrix.setCell_cell_self _ _ _ _

theorem Matrix.freeAt_entry (m : Matrix) (r : Fin 256) (c : Fin 64) (t : Int) : (m.freeAt r c t).entry r c = none :=
  (Matrix.dropEntry_entry _ _ _ _ _).trans (if_pos ⟨rfl, rfl⟩)

theorem Matrix.sameBut_freeAt (m : Matrix) (r : Fin 256) (c : Fin 64) (t : Int) : m.SameBut (m.freeAt r c t) r c :=
  (m.sameBut_setCell r c _).trans (Matrix.sameBut_dropEntry _ r c)

section
variable {m : Matrix} {r : Fin 256} {c : Fin 64} {e : PoolEntry} (h : MatrixOk m) (he : m.entry r c = some e) (t : Int)
include h he

theorem Matrix.freeAt_length : (m.freeAt r c t).pool.length + 1 = m.pool.length :=
  Matrix.dropEntry_length (m := m.setCell r c ⟨t, t, false⟩) h.agrees.sorted he

theorem Matrix.freeAt_agrees : (m.freeAt r c t).Agrees := by
  have hlen := Matrix.freeAt_length h he t
  have hsize := h.agrees.size
  have hpend : (m.cell r c).pend = false := by rw [((h.agrees.xp r c).1 e he).2.2.2]
  refine h.agrees.changed_in_place (m.sameBut_freeAt r c t) (by omega) (Matrix.dropEntry_sorted h.agrees.sorted r c)
    (Matrix.xpOk_standing (m.freeAt_entry r c t) ?_) rfl ?_
  · rw [Matrix.freeAt_cell]
  · rw [Matrix.freeAt_cell, hpend]

/-- R72, R76: the crosspoint of the entry keeps its new codes through the hand-out. -/
theorem Matrix.stepTo_here :
    (m.stepTo r c t).cell r c = ⟨t, t, false⟩ ∧ (m.stepTo r c t).entry r c = none := by
  obtain ⟨hcell, hentry⟩ := Matrix.handOutTo_elsewhere m.waiting (m.freeAt r c t) (h.agrees.not_waits he)
  rw [Matrix.stepTo_of_some he]
  exact ⟨hcell.trans (m.freeAt_cell r c t), hentry.trans (m.freeAt_entry r c t)⟩

theorem MatrixOk.stepTo_of_some : MatrixOk (m.stepTo r c t) := by
  have hlen := Matrix.freeAt_length h he t
  have hroom : (m.freeAt r c t).pool.length < 1024 := hlen.trans_le h.agrees.size
  rw [matrixOk_iff, Matrix.stepTo_of_some he]
  obtain ⟨hagrees, hused⟩ := Matrix.Agrees.handOutTo m.waiting (Matrix.freeAt_agrees h he t) hroom
  refine ⟨hagrees, fun hne => ?_⟩
  have hwaiting : m.waiting ≠ [] := fun hnil => by
    have hsuffix := Matrix.handOutTo_waiting m.waiting (m.freeAt r c t)
    exact hne (List.suffix_nil.1 (hnil ▸ hsuffix))
  rw [hused hne, hlen, h.full hwaiting]

/-- R76: what the freeing of an entry and its hand-out do to the other crosspoints. -/
theorem Matrix.handedOut_stepTo : HandedOut m (m.stepTo r c t) r c := by
  have hok := MatrixOk.stepTo_of_some h he t
  have hcodes : ∀ r' c', ¬(r' = r ∧ c' = c) →
      ((m.stepTo r c t).cell r' c').cur = (m.cell r' c').cur ∧ ((m.stepTo r c t).cell r' c').tgt = (m.cell r' c').tgt :=
    fun r' c' hne => by
      have hhand := Matrix.handOutTo_codes m.waiting (m.freeAt r c t) r' c'
      rw [(m.sameBut_freeAt r c t r' c' hne).1] at hhand
      rw [Matrix.stepTo_of_some he]
      exact hhand
  have hcell : ∀ w ∈ m.waiting, (m.freeAt r c t).cell w.row w.col = m.cell w.row w.col := fun w hw =>
    (m.sameBut_freeAt r c t w.row w.col fun hat => h.agrees.not_waits he ⟨w, hw, hat⟩).1
  have hlen := Matrix.freeAt_length h he t
  have hidle : ∀ r' c', ¬waitsAt (m.stepTo r c t).waiting r' c' → ((m.stepTo r c t).cell r' c').pend = false :=
    fun r' c' hno => Bool.eq_false_iff.2 (mt (hok.agrees.marks r' c').1 hno)
  refine ⟨(Matrix.stepTo_here h he t).2, fun r' c' hne => ⟨(hcodes r' c' hne).1, (hcodes r' c' hne).2, fun f hf => ?_⟩,
    fun hstill => ?_, fun before w after hsplit hbefore hw => ?_⟩
  · rw [Matrix.stepTo_of_some he,
      (Matrix.handOutTo_elsewhere m.waiting (m.freeAt r c t) (h.agrees.not_waits hf)).2,
      (m.sameBut_freeAt r c t r' c' hne).2]
    exact hf
  · have hall : ∀ w ∈ m.waiting, ((m.freeAt r c t).cell w.row w.col).cur = ((m.freeAt r c t).cell w.row w.col).tgt :=
      fun w hw => by rw [hcell w hw]; exact hstill w hw
    obtain ⟨hwaiting, hpool⟩ := Matrix.handOutTo_none m.waiting (m.freeAt r c t) hall
    rw [← Matrix.stepTo_of_some he] at hwaiting hpool
    refine ⟨hwaiting, by rw [hpool, hlen], fun r' c' => hidle r' c' ?_⟩
    rw [hwaiting]
    exact fun ⟨v, hv, _⟩ => nomatch hv
  · have hmem : w ∈ m.waiting := hsplit ▸ List.mem_append_right before List.mem_cons_self
    have hfirst := Matrix.handOutTo_first before w after (m.freeAt r c t)
      (fun v hv => by
        rw [hcell v (hsplit ▸ List.mem_append_left _ hv)]
        exact hbefore v hv)
      (by rw [hcell w hmem]; exact hw)
    rw [← hsplit, ← Matrix.stepTo_of_some he, Matrix.rampFor, hcell w hmem] at hfirst
    obtain ⟨hwaiting, hpool⟩ := hfirst
    have hnone : (m.freeAt r c t).entry w.row w.col = none :=
      (Matrix.freeAt_agrees h he t).entry_of_waits ⟨w, hmem, rfl, rfl⟩
    refine ⟨hwaiting, ?_, ?_, fun v hv => hidle v.row v.col ?_⟩
    · rw [hpool, Matrix.putEntry_length_of_none hnone, hlen]
    · rw [Matrix.entry_congr hpool, Matrix.putEntry_entry, if_pos ⟨rfl, rfl⟩]
    · rw [hwaiting]
      rintro ⟨u, hu, hr, hc⟩
      have hdistinct := h.agrees.list.1
      rw [hsplit, List.append_cons] at hdistinct
      exact (List.pairwise_append.1 hdistinct).2.2 v hv u hu ⟨hr.symm, hc.symm⟩

end

theorem MatrixOk.stepTo {m : Matrix} (h : MatrixOk m) (r : Fin 256) (c : Fin 64) (t : Int) : MatrixOk (m.stepTo r c t) := by
  cases he : m.entry r c with
  | some e => exact h.stepTo_of_some he t
  | none =>
    have hwaits : ∀ r' c', waitsAt (m.waiting.filter fun w => decide ¬(w.row = r ∧ w.col = c)) r' c' ↔
        waitsAt m.waiting r' c' ∧ ¬(r' = r ∧ c' = c) := fun r' c' => by
      simp only [waitsAt, List.mem_filter, decide_eq_true_eq]
      constructor
      · rintro ⟨w, ⟨hw, hne⟩, rfl, rfl⟩
        exact ⟨⟨w, hw, rfl, rfl⟩, hne⟩
      · rintro ⟨⟨w, hw, rfl, rfl⟩, hne⟩
        exact ⟨w, ⟨hw, hne⟩, rfl, rfl⟩
    rw [matrixOk_iff, Matrix.stepTo_of_none he]
    refine ⟨h.agrees.changed (m.sameBut_setCell r c _) h.agrees.size h.agrees.sorted (Matrix.xpOk_standing he ?_)
      ⟨h.agrees.list.1.filter _, fun w hw => h.agrees.list.2 w (List.mem_filter.1 hw).1⟩ ?_ fun r' c' hne =>
        (hwaits r' c').trans (and_iff_left hne), fun hne => h.full fun hnil => hne ?_⟩
    · change ((m.setCell r c _).cell r c).cur = ((m.setCell r c _).cell r c).tgt
      rw [Matrix.setCell_cell_self]
    · change ((m.setCell r c _).cell r c).pend = true ↔ _
      rw [Matrix.setCell_cell_self]
      exact iff_of_false (fun e => nomatch e) fun hw => ((hwaits r c).1 hw).2 ⟨rfl, rfl⟩
    · dsimp only
      rw [hnil]
      rfl

/-! ### A target with a class of 1..7 (R73) -/

section
variable {f : Waiting → Waiting} (hat : ∀ w, (f w).row = w.row ∧ (f w).col = w.col)
include hat

theorem waitsAt_map (l : List Waiting) (r : Fin 256) (c : Fin 64) : waitsAt (l.map f) r c ↔ waitsAt l r c := by
  simp only [waitsAt, List.mem_map, exists_exists_and_eq_and, hat]

theorem waitingOk.map {l : List Waiting} (h : waitingOk l) (hcls : ∀ w, w.cls ≠ 0 → (f w).cls ≠ 0) :
    waitingOk (l.map f) := by
  refine ⟨List.pairwise_map.2 (h.1.imp fun hne => ?_), List.forall_mem_map.2 fun w hw => hcls w (h.2 w hw)⟩
  rwa [(hat _).1, (hat _).2, (hat _).1, (hat _).2]

end

theorem waitsAt_append {l : List Waiting} {r r' : Fin 256} {c c' : Fin 64} (n : Fin 8) :
    waitsAt (l ++ [⟨r, c, n⟩]) r' c' ↔ waitsAt l r' c' ∨ r' = r ∧ c' = c := by
  simp only [waitsAt, List.mem_append, List.mem_singleton, or_and_right, exists_or, exists_eq_left]
  exact or_congr_right ⟨fun h => ⟨h.1.symm, h.2.symm⟩, fun h => ⟨h.1.symm, h.2.symm⟩⟩

theorem waitingOk.append {l : List Waiting} (h : waitingOk l) {r : Fin 256} {c : Fin 64} {n : Fin 8} (hn : n ≠ 0)
    (hno : ¬waitsAt l r c) : waitingOk (l ++ [⟨r, c, n⟩]) := by
  refine ⟨List.pairwise_append.2 ⟨h.1, List.pairwise_singleton _ _, fun v hv w hw hat => ?_⟩, fun w hw => ?_⟩
  · rw [List.mem_singleton.1 hw] at hat
    exact hno ⟨v, hv, hat⟩
  · rcases List.mem_append.1 hw with hw | hw
    · exact h.2 w hw
    · rwa [List.mem_singleton.1 hw]

section
variable {m : Matrix} {r : Fin 256} {c : Fin 64} (t : Int) (n : Fin 8)

theorem Matrix.rampTo_of_entry {e : PoolEntry} (he : m.entry r c = some e) :
    m.rampTo r c t n = m.enter r c { m.cell r c with tgt := t } ⟨(m.cell r c).cur, t, rampLen n, 0⟩ := by
  rw [Matrix.rampTo, he]
  rfl

theorem Matrix.rampTo_of_pending (he : m.entry r c = none) (hp : (m.cell r c).pend = true) :
    m.rampTo r c t n = { m.setCell r c { m.cell r c with tgt := t } with
      waiting := m.waiting.map fun w => if w.row = r ∧ w.col = c then { w with cls := n } else w } := by
  rw [Matrix.rampTo, he]
  dsimp only
  rw [if_pos hp]
  simp only [Waiting.isAt_iff]

variable (he : m.entry r c = none) (hp : (m.cell r c).pend = false)
include he hp

theorem Matrix.rampTo_of_standing (ht : (m.cell r c).cur = t) : m.rampTo r c t n = m.setCell r c { m.cell r c with tgt := t } := by
  rw [Matrix.rampTo, he]
  dsimp only
  rw [if_neg (Bool.eq_false_iff.1 hp), if_pos ht]

theorem Matrix.rampTo_of_room (ht : (m.cell r c).cur ≠ t) (hroom : m.pool.length < 1024) :
    m.rampTo r c t n = m.enter r c { m.cell r c with tgt := t } ⟨(m.cell r c).cur, t, rampLen n, 0⟩ := by
  rw [Matrix.rampTo, he]
  dsimp only
  rw [if_neg (Bool.eq_false_iff.1 hp), if_neg ht, if_pos (show _ < poolSize from hroom)]
  rfl

theorem Matrix.rampTo_of_no_room (ht : (m.cell r c).cur ≠ t) (hroom : 1024 ≤ m.pool.length) :
    m.rampTo r c t n =
      { m.setCell r c ⟨(m.cell r c).cur, t, true⟩ with waiting := m.waiting ++ [⟨r, c, n⟩] } := by
  rw [Matrix.rampTo, he]
  dsimp only
  rw [if_neg (Bool.eq_false_iff.1 hp), if_neg ht, if_neg (Nat.not_lt.2 (show poolSize ≤ _ from hroom))]

end

/-- The five cases of R73. -/
theorem Matrix.rampTo_cases (m : Matrix) (r : Fin 256) (c : Fin 64) (t : Int) :
    (∃ e, m.entry r c = some e) ∨ (m.entry r c = none ∧ (m.cell r c).pend = true) ∨
      (m.entry r c = none ∧ (m.cell r c).pend = false ∧
        ((m.cell r c).cur = t ∨ (m.cell r c).cur ≠ t ∧ (m.pool.length < 1024 ∨ 1024 ≤ m.pool.length))) := by
  cases m.entry r c with
  | some e => exact .inl ⟨e, rfl⟩
  | none =>
    cases (m.cell r c).pend with
    | true => exact .inr (.inl ⟨rfl, rfl⟩)
    | false =>
      refine .inr (.inr ⟨rfl, rfl, ?_⟩)
      by_cases ht : (m.cell r c).cur = t
      · exact .inl ht
      · exact .inr ⟨ht, Nat.lt_or_ge _ _⟩

/-- An entry put in at a crosspoint that does not wait keeps the matrix, while the pool has room for it. -/
theorem MatrixOk.enter {m : Matrix} (h : MatrixOk m) {r : Fin 256} {c : Fin 64} {x : Xp} {p : Ramp}
    (hp : (m.cell r c).pend = false) (hx : x.pend = false) (hsize : (m.enter r c x p).pool.length ≤ 1024)
    (hfull : m.pool.length = 1024 → (m.enter r c x p).pool.length = 1024) (hxp : (m.enter r c x p).XpOk r c) :
    MatrixOk (m.enter r c x p) := by
  refine (matrixOk_iff _).2 ⟨h.agrees.changed_in_place (m.sameBut_enter r c x p) hsize
    (Matrix.enter_sorted r c x p h.agrees.sorted) hxp rfl ?_, fun hne => hfull (h.full hne)⟩
  rw [m.enter_cell r c x p, hx, hp]

theorem MatrixOk.rampTo {m : Matrix} (h : MatrixOk m) (r : Fin 256) (c : Fin 64) (t : Int) {n : Fin 8} (hn : n ≠ 0) :
    MatrixOk (m.rampTo r c t n) := by
  have hxp : (m.cell r c).pend = false →
      (m.enter r c { m.cell r c with tgt := t } ⟨(m.cell r c).cur, t, rampLen n, 0⟩).XpOk r c := fun hp =>
    Matrix.xpOk_entered hn (m.enter_entry r c _ _) ((m.enter_cell r c _ _).trans (congrArg (Xp.mk _ t) hp))
  rcases m.rampTo_cases r c t with ⟨e, he⟩ | ⟨he, hp⟩ | ⟨he, hp, ht | ⟨ht, hroom | hroom⟩⟩
  · have hpend : (m.cell r c).pend = false := by rw [((h.agrees.xp r c).1 e he).2.2.2]
    have hlen := Matrix.enter_length_of_some { m.cell r c with tgt := t } ⟨(m.cell r c).cur, t, rampLen n, 0⟩ h.agrees.sorted he
    rw [Matrix.rampTo_of_entry t n he]
    exact h.enter hpend hpend (hlen.trans_le h.agrees.size) hlen.trans (hxp hpend)
  · have hat : ∀ w : Waiting, (if w.row = r ∧ w.col = c then { w with cls := n } else w).row = w.row ∧
        (if w.row = r ∧ w.col = c then { w with cls := n } else w).col = w.col := fun w => by split <;> exact ⟨rfl, rfl⟩
    have hlist := h.agrees.list.map hat fun w hw => by
      split
      · exact hn
      · exact hw
    have hpend : ((m.setCell r c { m.cell r c with tgt := t }).cell r c).pend = (m.cell r c).pend := by
      rw [Matrix.setCell_cell_self]
    rw [Matrix.rampTo_of_pending t n he hp]
    refine (matrixOk_iff _).2 ⟨h.agrees.changed (m.sameBut_setCell r c _) h.agrees.size h.agrees.sorted
      (Matrix.xpOk_pending he (hpend.trans hp)) hlist ?_ fun r' c' _ => waitsAt_map hat _ r' c',
      fun hne => h.full (mt (congrArg _) hne)⟩
    rw [waitsAt_map hat, ← h.agrees.marks r c]
    exact Eq.congr_left hpend
  · rw [Matrix.rampTo_of_standing t n he hp ht]
    have hcell := m.setCell_cell_self r c { m.cell r c with tgt := t }
    exact (matrixOk_iff _).2 ⟨h.agrees.changed_in_place (m.sameBut_setCell r c _) h.agrees.size h.agrees.sorted
      (Matrix.xpOk_standing he (by rw [hcell]; exact ht)) rfl (by rw [hcell]), h.full⟩
  · have hlen := Matrix.enter_length_of_none { m.cell r c with tgt := t } ⟨(m.cell r c).cur, t, rampLen n, 0⟩ he
    rw [Matrix.rampTo_of_room t n he hp ht hroom]
    exact h.enter hp hp (hlen.trans_le hroom) (fun hfull => by omega) (hxp hp)
  · have hno : ¬waitsAt m.waiting r c := mt (h.agrees.marks r c).2 (Bool.eq_false_iff.1 hp)
    have hcell := m.setCell_cell_self r c ⟨(m.cell r c).cur, t, true⟩
    rw [Matrix.rampTo_of_no_room t n he hp ht hroom]
    refine (matrixOk_iff _).2 ⟨h.agrees.changed (m.sameBut_setCell r c _) h.agrees.size h.agrees.sorted
      (Matrix.xpOk_pending he (congrArg Xp.pend hcell)) (h.agrees.list.append hn hno) ?_ fun r' c' hne =>
        (waitsAt_append n).trans (or_iff_left hne), fun _ => Nat.le_antisymm h.agrees.size hroom⟩
    exact iff_of_true (congrArg Xp.pend hcell) ((waitsAt_append n).2 (.inr ⟨rfl, rfl⟩))

theorem MatrixOk.write {m : Matrix} (h : MatrixOk m) (r : Fin 256) (c : Fin 64) (t : Int) (n : Fin 8) :
    MatrixOk (m.write r c t n) := by
  unfold Matrix.write
  split
  · exact h.stepTo r c t
  · next hn => exact h.rampTo r c t hn

end Sys2Proof.Machine
end

section
namespace Sys2Proof.Machine

/-! ### A crosspoint that receives a target (R72, R73, R74) -/

theorem Matrix.write_zero (m : Matrix) (r : Fin 256) (c : Fin 64) (t : Int) : m.write r c t 0 = m.stepTo r c t := if_pos rfl

theorem Matrix.write_of_ne {n : Fin 8} (hn : n ≠ 0) (m : Matrix) (r : Fin 256) (c : Fin 64) (t : Int) :
    m.write r c t n = m.rampTo r c t n := if_neg hn

theorem Matrix.sameBut_stepTo_of_none {m : Matrix} {r : Fin 256} {c : Fin 64} (he : m.entry r c = none) (t : Int) :
    m.SameBut (m.stepTo r c t) r c := by
  rw [Matrix.stepTo_of_none he]
  exact m.sameBut_setCell r c _

theorem Matrix.sameBut_rampTo (m : Matrix) (r : Fin 256) (c : Fin 64) (t : Int) (n : Fin 8) :
    m.SameBut (m.rampTo r c t n) r c := by
  rcases m.rampTo_cases r c t with ⟨e, he⟩ | ⟨he, hp⟩ | ⟨he, hp, ht | ⟨ht, hroom | hroom⟩⟩
  · rw [Matrix.rampTo_of_entry t n he]
    exact m.sameBut_enter r c _ _
  · rw [Matrix.rampTo_of_pending t n he hp]
    exact m.sameBut_setCell r c _
  · rw [Matrix.rampTo_of_standing t n he hp ht]
    exact m.sameBut_setCell r c _
  · rw [Matrix.rampTo_of_room t n he hp ht hroom]
    exact m.sameBut_enter r c _ _
  · rw [Matrix.rampTo_of_no_room t n he hp ht hroom]
    exact m.sameBut_setCell r c _

theorem Matrix.joins_iff (m : Matrix) (r : Fin 256) (c : Fin 64) (t : Int) :
    m.joins r c t = true ↔
      m.entry r c = none ∧ (m.cell r c).pend = false ∧ (m.cell r c).cur ≠ t ∧ 1024 ≤ m.pool.length := by
  simp only [Matrix.joins, Bool.and_eq_true, Option.isNone_iff_eq_none, Bool.not_eq_true', bne_iff_ne, decide_eq_true_eq,
    and_assoc]
  exact Iff.rfl

theorem Report.afterJoin_eq (rep : Report) (l : List Waiting) :
    rep.afterJoin l.isEmpty = if l = [] then (rep.addCount 19).setItem .poolWait else rep.addCount 19 :=
  if_congr List.isEmpty_iff rfl rfl

/-- Settles O29: the matrix by the case of R72 or R73 that the crosspoint is in, the report by `Matrix.joins_iff`. -/
theorem poolRules : Obligations.PoolRules := by
  intro s r c t n m x u m' entered joins
  have hjoins : (n ≠ 0 ∧ m.joins r c t = true) ↔ joins := and_congr_right fun _ => m.joins_iff r c t
  have hzero : n = 0 → m' = m.stepTo r c t := fun hn => if_pos hn
  have hramp : n ≠ 0 → m' = m.rampTo r c t n := fun hn => if_neg hn
  have hset := m.setCell_cell_self r c { x with tgt := t }
  have hcell := m.enter_cell r c { x with tgt := t } ⟨x.cur, t, rampLen n, 0⟩
  have hentry := m.enter_entry r c { x with tgt := t } ⟨x.cur, t, rampLen n, 0⟩
  refine ⟨fun hn he hok => ?_, fun hn he => ?_, fun hn he => ?_, fun hn he hp => ?_, fun hn he hp ht => ?_,
    fun hn he hp ht hroom => ?_, fun hj => ?_, fun hj => ?_, rfl, fun h => ?_⟩
  · obtain ⟨e, he⟩ := Option.ne_none_iff_exists'.1 he
    rw [hzero hn]
    exact ⟨(Matrix.stepTo_here hok he t).1, Matrix.handedOut_stepTo hok he t⟩
  · rw [hzero hn, Matrix.stepTo_of_none he]
    exact ⟨m.setCell_cell_self r c _, rfl, rfl⟩
  · obtain ⟨e, he⟩ := Option.ne_none_iff_exists'.1 he
    rw [hramp hn, Matrix.rampTo_of_entry t n he]
    exact ⟨hcell, hentry, rfl⟩
  · rw [hramp hn, Matrix.rampTo_of_pending t n he hp]
    exact ⟨hset, rfl, rfl⟩
  · rw [hramp hn, Matrix.rampTo_of_standing t n he hp ht]
    exact ⟨hset, rfl, rfl⟩
  · rw [hramp hn, Matrix.rampTo_of_room t n he hp ht hroom]
    exact ⟨hcell, hentry, rfl⟩
  · obtain ⟨hn, he, hp, ht, hroom⟩ := id hj
    rw [hramp hn, Matrix.rampTo_of_no_room t n he hp ht hroom]
    refine ⟨m.setCell_cell_self r c _, rfl, rfl, ?_⟩
    exact (if_pos (hjoins.2 hj)).trans (s.report.afterJoin_eq m.waiting)
  · exact if_neg (mt hjoins.1 hj)
  · by_cases hn : n = 0
    · rw [hzero hn]
      exact Matrix.sameBut_stepTo_of_none (h.resolve_left (not_not_intro hn)) t
    · rw [hramp hn]
      exact m.sameBut_rampTo r c t n

end Sys2Proof.Machine
end

section
namespace Sys2Proof.Machine

/-! ### A ramp's advance (R62) -/

theorem Ramp.advance_of_lt {r : Ramp} (h : r.k < r.len) : r.advance = { r with k := r.k + 1 } := if_neg (Nat.not_le.2 h)

theorem Ramp.advance_of_le {r : Ramp} (h : r.len ≤ r.k) : r.advance = r := if_pos h

/-! ### One entry's step of the ramp advance (R75) -/

theorem PoolEntry.lastStep_iff (e : PoolEntry) : e.lastStep = true ↔ e.ramp.len ≤ e.ramp.k + 1 := decide_eq_true_iff

section
variable {m : Matrix} {r : Fin 256} {c : Fin 64} {e : PoolEntry} (h : MatrixOk m) (he : m.entry r c = some e)
include h he

/-- A completed entry is freed as a target with class 0 frees it (R72, R75). -/
theorem Matrix.completeEntry_eq_stepTo : m.completeEntry e = m.stepTo r c e.ramp.target := by
  obtain ⟨_, rfl, rfl⟩ := Matrix.entry_some he
  rw [Matrix.stepTo_of_some he, Matrix.completeEntry, ((h.agrees.xp _ _).1 e he).2.2.2]
  rfl

theorem Matrix.advanceEntry_of_last (hl : e.ramp.len ≤ e.ramp.k + 1) : m.advanceEntry e = m.stepTo r c e.ramp.target := by
  rw [Matrix.advanceEntry, if_pos ((e.lastStep_iff).2 hl), Matrix.completeEntry_eq_stepTo h he]

theorem Matrix.advanceEntry_of_not_last (hl : e.ramp.k + 1 < e.ramp.len) :
    m.advanceEntry e = m.enter r c ⟨e.ramp.advance.cur, e.ramp.target, false⟩ e.ramp.advance := by
  obtain ⟨_, rfl, rfl⟩ := Matrix.entry_some he
  rw [Matrix.advanceEntry, if_neg (mt (e.lastStep_iff).1 (by omega)), ((h.agrees.xp _ _).1 e he).2.2.2]
  rfl

theorem MatrixOk.advanceEntry : MatrixOk (m.advanceEntry e) := by
  rcases Nat.lt_or_ge (e.ramp.k + 1) e.ramp.len with hl | hl
  · obtain ⟨hlow, hhigh, hk, hcell⟩ := (h.agrees.xp r c).1 e he
    have hadvance := Ramp.advance_of_lt hk
    have hlen := Matrix.enter_length_of_some ⟨e.ramp.advance.cur, e.ramp.target, false⟩ e.ramp.advance h.agrees.sorted he
    have hcell' := m.enter_cell r c ⟨e.ramp.advance.cur, e.ramp.target, false⟩ e.ramp.advance
    have hentry' := m.enter_entry r c ⟨e.ramp.advance.cur, e.ramp.target, false⟩ e.ramp.advance
    rw [Matrix.advanceEntry_of_not_last h he hl]
    refine h.enter (by rw [hcell]) rfl (hlen.trans_le h.agrees.size) hlen.trans ⟨fun f hf => ?_, fun hf => ?_⟩
    · obtain rfl := Option.some.inj (hentry'.symm.trans hf)
      rw [hcell', hadvance]
      exact ⟨hlow, hhigh, hl, rfl⟩
    · exact nomatch hentry'.symm.trans hf
  · rw [Matrix.advanceEntry_of_last h he hl]
    exact h.stepTo r c _

end

/-! ### What a step at one crosspoint leaves of the others (R75, R76) -/

/-- R75, R76: a crosspoint keeps its codes, its entry if it has one, and, if it stands at its target, that. -/
def Matrix.Bystands (m m' : Matrix) (r : Fin 256) (c : Fin 64) : Prop :=
  (m'.cell r c).cur = (m.cell r c).cur ∧ (m'.cell r c).tgt = (m.cell r c).tgt ∧
    (∀ e, m.entry r c = some e → m'.entry r c = some e) ∧
    (m.entry r c = none → (m.cell r c).pend = false → m'.entry r c = none ∧ (m'.cell r c).pend = false)

theorem Matrix.Bystands.refl (m : Matrix) (r : Fin 256) (c : Fin 64) : m.Bystands m r c :=
  ⟨rfl, rfl, fun _ => id, fun he hp => ⟨he, hp⟩⟩

theorem Matrix.Bystands.trans {m m1 m2 : Matrix} {r : Fin 256} {c : Fin 64} (h : m.Bystands m1 r c)
    (k : m1.Bystands m2 r c) : m.Bystands m2 r c := by
  obtain ⟨hcur, htgt, hentry, hstand⟩ := h
  obtain ⟨kcur, ktgt, kentry, kstand⟩ := k
  exact ⟨kcur.trans hcur, ktgt.trans htgt, fun e he => kentry e (hentry e he),
    fun he hp => kstand (hstand he hp).1 (hstand he hp).2⟩

theorem Matrix.Bystands.of_same {m m' : Matrix} {r : Fin 256} {c : Fin 64} (hcell : m'.cell r c = m.cell r c)
    (hentry : m'.entry r c = m.entry r c) : m.Bystands m' r c :=
  ⟨by rw [hcell], by rw [hcell], fun e he => hentry.trans he, fun he hp => ⟨hentry.trans he, by rw [hcell]; exact hp⟩⟩

/-- A crosspoint that stands at its target, or has an entry, has no part in a hand-out. -/
theorem Matrix.bystands_stepTo {m : Matrix} {r : Fin 256} {c : Fin 64} {e : PoolEntry} (h : MatrixOk m)
    (he : m.entry r c = some e) (t : Int) {r' : Fin 256} {c' : Fin 64} (hne : ¬(r' = r ∧ c' = c)) :
    m.Bystands (m.stepTo r c t) r' c' := by
  obtain ⟨_, hothers, _⟩ := Matrix.handedOut_stepTo h he t
  obtain ⟨hcur, htgt, hentry⟩ := hothers r' c' hne
  refine ⟨hcur, htgt, hentry, fun hno hp => ?_⟩
  have hnot : ¬waitsAt m.waiting r' c' := mt (h.agrees.marks r' c').2 (Bool.eq_false_iff.1 hp)
  obtain ⟨hcell, hentry'⟩ := Matrix.handOutTo_elsewhere m.waiting (m.freeAt r c t) hnot
  obtain ⟨kcell, kentry⟩ := m.sameBut_freeAt r c t r' c' hne
  rw [Matrix.stepTo_of_some he, hcell, kcell, hentry', kentry]
  exact ⟨hno, hp⟩

theorem Matrix.bystands_advanceEntry {m : Matrix} {r : Fin 256} {c : Fin 64} {e : PoolEntry} (h : MatrixOk m)
    (he : m.entry r c = some e) {r' : Fin 256} {c' : Fin 64} (hne : ¬(r' = r ∧ c' = c)) :
    m.Bystands (m.advanceEntry e) r' c' := by
  rcases Nat.lt_or_ge (e.ramp.k + 1) e.ramp.len with hl | hl
  · rw [Matrix.advanceEntry_of_not_last h he hl]
    obtain ⟨hcell, hentry⟩ := m.sameBut_enter r c ⟨e.ramp.advance.cur, e.ramp.target, false⟩ e.ramp.advance r' c' hne
    exact .of_same hcell hentry
  · rw [Matrix.advanceEntry_of_last h he hl]
    exact Matrix.bystands_stepTo h he _ hne

theorem Xp.eq_mk {x : Xp} {a t : Int} {b : Bool} (ha : x.cur = a) (ht : x.tgt = t) (hb : x.pend = b) : x = ⟨a, t, b⟩ := by
  subst ha ht hb
  rfl

/-! ### The ramp advance of a frame, entry by entry (R75) -/

/-- The entries still to step: in use, at crosspoints of their own. -/
def Matrix.InUse (m : Matrix) (l : List PoolEntry) : Prop :=
  MatrixOk m ∧ poolSorted l ∧ ∀ e ∈ l, m.entry e.row e.col = some e

theorem MatrixOk.inUse {m : Matrix} (h : MatrixOk m) : m.InUse m.pool :=
  ⟨h, h.agrees.sorted, fun _ => Matrix.entry_of_mem h.agrees.sorted⟩

theorem poolSorted.head_alone {e : PoolEntry} {l : List PoolEntry} (h : poolSorted (e :: l)) {f : PoolEntry} (hf : f ∈ l) :
    ¬(f.row = e.row ∧ f.col = e.col) := fun hat => by
  have hlt := (List.pairwise_cons.1 h).1 f hf
  rw [hat.1, hat.2] at hlt
  exact Nat.lt_irrefl _ hlt

section
variable {m : Matrix} {e : PoolEntry} {l : List PoolEntry} (h : m.InUse (e :: l))
include h

theorem Matrix.InUse.head : MatrixOk m ∧ m.entry e.row e.col = some e := ⟨h.1, h.2.2 e List.mem_cons_self⟩

theorem Matrix.InUse.step : (m.advanceEntry e).InUse l := by
  obtain ⟨hok, he⟩ := h.head
  exact ⟨hok.advanceEntry he, (List.pairwise_cons.1 h.2.1).2, fun f hf =>
    (Matrix.bystands_advanceEntry hok he (h.2.1.head_alone hf)).2.2.1 f (h.2.2 f (List.mem_cons_of_mem e hf))⟩

end

/-- The agreement is kept, and a crosspoint without an entry still to step stands by. -/
theorem Matrix.InUse.advanced {l : List PoolEntry} {m : Matrix} (h : m.InUse l) :
    MatrixOk (l.foldl Matrix.advanceEntry m) ∧
      ∀ r c, (∀ e ∈ l, ¬(e.row = r ∧ e.col = c)) → m.Bystands (l.foldl Matrix.advanceEntry m) r c := by
  induction l generalizing m with
  | nil => exact ⟨h.1, fun r c _ => .refl m r c⟩
  | cons e l ih =>
    obtain ⟨hok, hrest⟩ := ih h.step
    refine ⟨hok, fun r c hno => ?_⟩
    obtain ⟨he, hl⟩ := List.forall_mem_cons.1 hno
    exact (Matrix.bystands_advanceEntry h.head.1 h.head.2 fun hat => he ⟨hat.1.symm, hat.2.symm⟩).trans (hrest r c hl)

theorem MatrixOk.advance {m : Matrix} (h : MatrixOk m) : MatrixOk m.advance := h.inUse.advanced.1

/-- R75: what the advance makes of each entry still to step. -/
theorem Matrix.InUse.stepped {l : List PoolEntry} {m : Matrix} (h : m.InUse l) {e : PoolEntry} (he : e ∈ l) :
    (e.ramp.k + 1 < e.ramp.len →
      (l.foldl Matrix.advanceEntry m).entry e.row e.col = some { e with ramp := e.ramp.advance }) ∧
    (e.ramp.len ≤ e.ramp.k + 1 →
      (l.foldl Matrix.advanceEntry m).entry e.row e.col = none ∧
        (l.foldl Matrix.advanceEntry m).cell e.row e.col = ⟨e.ramp.target, e.ramp.target, false⟩) := by
  induction l generalizing m with
  | nil => exact nomatch he
  | cons f l ih =>
    rcases List.mem_cons.1 he with rfl | he
    · obtain ⟨hok, hentry⟩ := h.head
      obtain ⟨_, hby⟩ := h.step.advanced
      obtain ⟨hcur, htgt, hkept, hstand⟩ := hby e.row e.col fun f hf => h.2.1.head_alone hf
      rw [List.foldl_cons]
      refine ⟨fun hl => hkept _ ?_, fun hl => ?_⟩
      · rw [Matrix.advanceEntry_of_not_last hok hentry hl]
        exact m.enter_entry e.row e.col _ _
      · obtain ⟨hcell, hnone⟩ := Matrix.stepTo_here hok hentry e.ramp.target
        rw [← Matrix.advanceEntry_of_last hok hentry hl] at hcell hnone
        rw [hcell] at hcur htgt hstand
        obtain ⟨hfree, hpend⟩ := hstand hnone rfl
        exact ⟨hfree, Xp.eq_mk hcur htgt hpend⟩
    · exact ih h.step he

/-- R76: when no waiting crosspoint is at its target, the completed entries go to the oldest of them. -/
theorem Matrix.InUse.handed {l : List PoolEntry} {m : Matrix} (h : m.InUse l)
    (hw : ∀ w ∈ m.waiting, (m.cell w.row w.col).cur ≠ (m.cell w.row w.col).tgt) :
    (l.foldl Matrix.advanceEntry m).waiting = m.waiting.drop (l.countP fun e => decide (e.ramp.len ≤ e.ramp.k + 1)) ∧
    ∀ w ∈ m.waiting.take (l.countP fun e => decide (e.ramp.len ≤ e.ramp.k + 1)),
      (l.foldl Matrix.advanceEntry m).entry w.row w.col =
        some ⟨w.row, w.col, ⟨(m.cell w.row w.col).cur, (m.cell w.row w.col).tgt, rampLen w.cls, 0⟩⟩ := by
  induction l generalizing m with
  | nil => exact ⟨rfl, fun w hw => nomatch hw⟩
  | cons e l ih =>
    obtain ⟨hok, hentry⟩ := h.head
    have hcodes : ∀ w ∈ m.waiting, ((m.advanceEntry e).cell w.row w.col).cur = (m.cell w.row w.col).cur ∧
        ((m.advanceEntry e).cell w.row w.col).tgt = (m.cell w.row w.col).tgt := fun w hw => by
      obtain ⟨hcur, htgt, _⟩ := Matrix.bystands_advanceEntry hok hentry (r' := w.row) (c' := w.col)
        fun hat => hok.agrees.not_waits hentry ⟨w, hw, hat⟩
      exact ⟨hcur, htgt⟩
    rw [List.foldl_cons]
    rcases Nat.lt_or_ge (e.ramp.k + 1) e.ramp.len with hl | hl
    · have hwaiting : (m.advanceEntry e).waiting = m.waiting := by
        rw [Matrix.advanceEntry_of_not_last hok hentry hl]
        rfl
      rw [List.countP_cons_of_neg (by simpa using hl)]
      obtain ⟨hdrop, htake⟩ := ih h.step fun w hmem => by
        rw [hwaiting] at hmem
        rw [(hcodes w hmem).1, (hcodes w hmem).2]
        exact hw w hmem
      rw [hwaiting] at hdrop htake
      refine ⟨hdrop, fun w hmem => ?_⟩
      rw [htake w hmem, (hcodes w (List.mem_of_mem_take hmem)).1, (hcodes w (List.mem_of_mem_take hmem)).2]
    · rw [List.countP_cons_of_pos (by simpa using hl)]
      obtain ⟨_, _, hnone, hfirst⟩ := Matrix.handedOut_stepTo hok hentry e.ramp.target
      rw [← Matrix.advanceEntry_of_last hok hentry hl] at hnone hfirst
      cases hlist : m.waiting with
      | nil =>
        obtain ⟨hempty, _⟩ := hnone fun w hmem => nomatch hlist ▸ hmem
        obtain ⟨hdrop, _⟩ := ih h.step fun w hmem => nomatch hempty ▸ hmem
        rw [hempty, List.drop_nil] at hdrop
        exact ⟨hdrop, fun w hmem => nomatch hmem⟩
      | cons v vs =>
        have hmemv : v ∈ m.waiting := hlist ▸ List.mem_cons_self
        have hmem' : ∀ w ∈ vs, w ∈ m.waiting := fun w hmem => hlist ▸ List.mem_cons_of_mem v hmem
        obtain ⟨hrest, _, hv, _⟩ := hfirst [] v vs hlist (fun u hu => nomatch hu) (hw v hmemv)
        obtain ⟨hdrop, htake⟩ := ih h.step fun w hmem => by
          rw [hrest] at hmem
          rw [(hcodes w (hmem' w hmem)).1, (hcodes w (hmem' w hmem)).2]
          exact hw w (hmem' w hmem)
        rw [hrest] at hdrop htake
        refine ⟨hdrop, List.forall_mem_cons.2 ⟨?_, fun w hmem => ?_⟩⟩
        · refine (h.step.advanced.2 v.row v.col fun f hf hat => ?_).2.2.1 _ hv
          have hf' := h.2.2 f (List.mem_cons_of_mem e hf)
          exact hok.agrees.not_waits hf' ⟨v, hmemv, hat.1.symm, hat.2.symm⟩
        · have hwmem := hmem' w (List.mem_of_mem_take hmem)
          rw [htake w hmem, (hcodes w hwmem).1, (hcodes w hwmem).2]

/-! ### RAMP_COMPLETION and the frame (R64, R65, R75, R76) -/

theorem State.frameMoves_matrix (s : State) (src : FrameSource) :
    (s.frameMoves src).matrix = (s.frameEvents src).matrix.advance := by
  obtain ⟨_, _, h⟩ := State.frameMoves_eq s src
  rw [h]
  rfl

theorem State.sweepVisits_of_idle {s : State} (h : s.sweep = .idle) : s.sweepVisits = s := by
  rw [State.sweepVisits, h]

theorem State.computeFrame_matrix (s : State) (src : FrameSource) : (s.computeFrame src).matrix = s.matrix := by
  obtain ⟨_, _, _, _, h⟩ := State.computeFrame_touches s src
  rw [h]

/-- No part of a frame before its visits reaches the sweep (R96). -/
theorem State.computeFrame_sweep (s : State) (src : FrameSource) : ((s.frameMoves src).computeFrame src).sweep = s.sweep := by
  obtain ⟨_, _, _, _, h⟩ := State.computeFrame_touches (s.frameMoves src) src
  obtain ⟨_, _, _, _, _, _, _, _, _, _, _, h'⟩ := State.frameMoves_touches s src
  rw [h]
  dsimp only
  rw [h']

theorem State.engineFrame_matrix_of_idle {s : State} (h : s.sweep = .idle) (src : FrameSource) :
    (s.engineFrame src).matrix = (s.frameEvents src).matrix.advance := by
  rw [State.engineFrame, State.sweepVisits_of_idle ((State.computeFrame_sweep s src).trans h), State.computeFrame_matrix,
    State.frameMoves_matrix]

/-- Settles O30: a completion is a step to the entry's target, and the advance of a frame its entries' steps one after
another, of which each leaves the other crosspoints standing by. -/
theorem rampCompletionHandsEntryOut : Obligations.RampCompletionHandsEntryOut := by
  intro s
  refine ⟨fun hok r c => ?_, fun src hidle => ?_⟩
  · intro m
    refine ⟨fun e he hl => ⟨m.stepTo r c e.ramp.target, ?_, (Matrix.stepTo_here hok he _).1, Matrix.handedOut_stepTo hok he _⟩,
      fun hno => ?_⟩
    · rw [exec, execRampCompletion, he]
      dsimp only
      rw [if_pos (e.lastStep_iff.2 hl), Matrix.completeEntry_eq_stepTo hok he]
    · rw [exec, execRampCompletion]
      rcases hno with he | ⟨e, he, hl⟩
      · rw [he]
      · rw [he]
        dsimp only
        rw [if_neg (mt e.lastStep_iff.1 (by omega))]
  · intro m m' finished hok
    have hm' : m' = m.pool.foldl Matrix.advanceEntry m := State.engineFrame_matrix_of_idle hidle src
    obtain ⟨hok', hby⟩ := hok.inUse.advanced
    rw [← hm'] at hok' hby
    refine ⟨fun e he hl => ?_, fun e he hl => ?_, fun r c hno => ?_, fun hw => ?_⟩
    · intro ramp
      have hentry := (hok.inUse.stepped he).1 hl
      rw [← hm', Ramp.advance_of_lt (Nat.lt_of_succ_lt hl)] at hentry
      exact ⟨hentry, ((hok'.agrees.xp _ _).1 _ hentry).2.2.2⟩
    · rw [hm']
      exact (hok.inUse.stepped he).2 hl
    · obtain ⟨hcur, htgt, _⟩ := hby r c (Matrix.entry_eq_none.1 hno)
      exact ⟨hcur, htgt⟩
    · rw [hm']
      exact hok.inUse.handed hw

end Sys2Proof.Machine
end

section
namespace Sys2Proof.Machine

/-! ### Crosspoints that are not off (R82) -/

theorem Xp.nonOff_iff (x : Xp) : x.nonOff = true ↔ x.cur ≠ -960 ∨ x.tgt ≠ -960 := by
  simp only [Xp.nonOff, Bool.or_eq_true, bne_iff_ne, offCode]

/-- The codes after a target with class 0 (R72). -/
theorem Matrix.stepTo_codes (m : Matrix) (r : Fin 256) (c : Fin 64) (t : Int) (r' : Fin 256) (c' : Fin 64) :
    ((m.stepTo r c t).cell r' c').cur = ((m.setCell r c ⟨t, t, false⟩).cell r' c').cur ∧
      ((m.stepTo r c t).cell r' c').tgt = ((m.setCell r c ⟨t, t, false⟩).cell r' c').tgt := by
  cases he : m.entry r c with
  | some e =>
    rw [Matrix.stepTo_of_some he]
    exact Matrix.handOutTo_codes _ _ _ _
  | none =>
    rw [Matrix.stepTo_of_none he]
    exact ⟨rfl, rfl⟩

/-- The codes of its crosspoint after a target with a class of 1..7 (R73). -/
theorem Matrix.rampTo_codes (m : Matrix) (r : Fin 256) (c : Fin 64) (t : Int) (n : Fin 8) :
    ((m.rampTo r c t n).cell r c).cur = (m.cell r c).cur ∧ ((m.rampTo r c t n).cell r c).tgt = t := by
  have hset : ∀ x, (m.setCell r c x).cell r c = x := m.setCell_cell_self r c
  rcases m.rampTo_cases r c t with ⟨e, he⟩ | ⟨he, hp⟩ | ⟨he, hp, ht | ⟨ht, hroom | hroom⟩⟩
  · rw [Matrix.rampTo_of_entry t n he, m.enter_cell]
    exact ⟨rfl, rfl⟩
  · rw [Matrix.rampTo_of_pending t n he hp]
    change ((m.setCell r c _).cell r c).cur = _ ∧ ((m.setCell r c _).cell r c).tgt = t
    rw [hset]
    exact ⟨rfl, rfl⟩
  · rw [Matrix.rampTo_of_standing t n he hp ht, hset]
    exact ⟨rfl, rfl⟩
  · rw [Matrix.rampTo_of_room t n he hp ht hroom, m.enter_cell]
    exact ⟨rfl, rfl⟩
  · rw [Matrix.rampTo_of_no_room t n he hp ht hroom]
    change ((m.setCell r c _).cell r c).cur = _ ∧ ((m.setCell r c _).cell r c).tgt = t
    rw [hset]
    exact ⟨rfl, rfl⟩

/-- A crosspoint that is not off after a write was not off before it, or the write is of it and of a code other than off. -/
theorem Matrix.nonOff_of_stepTo {m : Matrix} {r r' : Fin 256} {c c' : Fin 64} {t : Int}
    (h : ((m.stepTo r c t).cell r' c').nonOff = true) :
    (m.cell r' c').nonOff = true ∨ (r' = r ∧ c' = c) ∧ t ≠ -960 := by
  obtain ⟨hcur, htgt⟩ := m.stepTo_codes r c t r' c'
  rw [Xp.nonOff_iff, hcur, htgt, Matrix.setCell_cell] at h
  split at h
  · next hat => exact .inr ⟨hat, h.elim id id⟩
  · exact .inl ((Xp.nonOff_iff _).2 h)

theorem Matrix.nonOff_of_write {m : Matrix} {r r' : Fin 256} {c c' : Fin 64} {t : Int} {n : Fin 8}
    (h : ((m.write r c t n).cell r' c').nonOff = true) :
    (m.cell r' c').nonOff = true ∨ (r' = r ∧ c' = c) ∧ t ≠ -960 := by
  by_cases hn : n = 0
  · rw [hn, Matrix.write_zero] at h
    exact Matrix.nonOff_of_stepTo h
  · rw [Matrix.write_of_ne hn] at h
    by_cases hat : r' = r ∧ c' = c
    · obtain ⟨rfl, rfl⟩ := hat
      obtain ⟨hcur, htgt⟩ := m.rampTo_codes r' c' t n
      rw [Xp.nonOff_iff, hcur, htgt] at h
      exact h.imp (fun hc => (Xp.nonOff_iff _).2 (.inl hc)) fun ht => ⟨⟨rfl, rfl⟩, ht⟩
    · rw [(m.sameBut_rampTo r c t n r' c' hat).1] at h
      exact .inl h

/-- A ramp on its way that has come to its target began there (R62). -/
theorem Ramp.start_of_cur {r : Ramp} (hk : r.k < r.len) (h : r.cur = r.target) : r.start = r.target := by
  rw [Ramp.cur, if_neg (Nat.not_le.2 hk)] at h
  have hpart : ((r.target - r.start) * (r.k : Int)).tdiv (r.len : Int) = r.target - r.start := by omega
  have habs := congrArg Int.natAbs hpart
  rw [Int.natAbs_tdiv, Int.natAbs_mul, Int.natAbs_natCast, Int.natAbs_natCast] at habs
  by_contra hne
  have hpos : 0 < (r.target - r.start).natAbs := by omega
  have hlt : (r.target - r.start).natAbs * r.k < (r.target - r.start).natAbs * r.len := Nat.mul_lt_mul_of_pos_left hk hpos
  exact absurd habs (Nat.div_lt_of_lt_mul (hlt.trans_eq (Nat.mul_comm _ _))).ne

/-- A ramp that stays at one code stands there at every step. -/
theorem Ramp.cur_of_start {r : Ramp} (h : r.start = r.target) : r.cur = r.target := by
  have := r.cur_between
  omega

/-- R75: a crosspoint that is not off after a ramp advance was not off before it. -/
theorem Matrix.nonOff_of_advance {m : Matrix} (hok : MatrixOk m) {r : Fin 256} {c : Fin 64}
    (h : (m.advance.cell r c).nonOff = true) : (m.cell r c).nonOff = true := by
  obtain ⟨hok', hby⟩ := hok.inUse.advanced
  rw [Xp.nonOff_iff] at h ⊢
  cases he : m.entry r c with
  | none =>
    obtain ⟨hcur, htgt, _⟩ := hby r c (Matrix.entry_eq_none.1 he)
    exact hcur ▸ htgt ▸ h
  | some e =>
    obtain ⟨hmem, rfl, rfl⟩ := Matrix.entry_some he
    obtain ⟨hmoves, hends⟩ := hok.inUse.stepped hmem
    obtain ⟨_, _, hk, hcell⟩ := (hok.agrees.xp _ _).1 e he
    rw [hcell]
    rcases Nat.lt_or_ge (e.ramp.k + 1) e.ramp.len with hl | hl
    · have hcell' := ((hok'.agrees.xp _ _).1 _ (hmoves hl)).2.2.2
      by_contra hoff
      simp only [not_or, not_not] at hoff
      have hstart := Ramp.start_of_cur hk (hoff.1.trans hoff.2.symm)
      have hadvance := Ramp.advance_of_lt hk
      have hcur : e.ramp.advance.cur = e.ramp.target := by
        rw [hadvance]
        exact Ramp.cur_of_start (r := { e.ramp with k := e.ramp.k + 1 }) hstart
      have htgt : e.ramp.advance.target = e.ramp.target := by rw [hadvance]
      rw [Matrix.advance, hcell'] at h
      exact h.elim (fun hc => hc (hcur.trans hoff.2)) fun hc => hc (htgt.trans hoff.2)
    · rw [Matrix.advance, (hends hl).2] at h
      exact .inr (h.elim id id)

end Sys2Proof.Machine
end

section
namespace Sys2Proof.Machine

/-! ### The matrix and the tier law, operation by operation -/

/-- The invariant of the matrix and the tiers (R70, R71, R80, R82). -/
def Lawful (s : State) : Prop := MatrixOk s.matrix ∧ TierLaw s

theorem Lawful.of_nonOff {s t : State} (hs : Lawful s) (hm : MatrixOk t.matrix)
    (hb : ∀ b : Fin 64, t.buses[b].tier = s.buses[b].tier)
    (hx : ∀ r c, (t.matrix.cell r c).nonOff = true → (s.matrix.cell r c).nonOff = true) : Lawful t := by
  refine ⟨hm, fun b c h => ?_⟩
  rw [hb, hb]
  exact hs.2 b c (hx _ _ h)

theorem Lawful.of_tiers {s t : State} (hs : Lawful s) (hm : t.matrix = s.matrix)
    (hb : ∀ b : Fin 64, t.buses[b].tier = s.buses[b].tier) : Lawful t :=
  hs.of_nonOff (hm ▸ hs.1) hb fun _ _ h => hm ▸ h

theorem Lawful.of_same {s t : State} (hs : Lawful s) (hm : t.matrix = s.matrix) (hb : t.buses = s.buses) : Lawful t :=
  hs.of_tiers hm fun _ => by rw [hb]

theorem State.legal_busRow {s : State} {b c : Fin 64} (h : s.legal (busRow b) c = true) : s.buses[b].tier < s.buses[c].tier := by
  by_contra hle
  exact (s.legal_iff _ _).1 h ⟨b, rfl, not_lt.1 hle⟩

/-- R82, R83: a crosspoint written with a code other than off is legal. -/
theorem Lawful.writeXp {s : State} (hs : Lawful s) {r : Fin 256} {c : Fin 64} {t : Int} (n : Fin 8)
    (h : s.legal r c = true ∨ t = -960) : Lawful (s.writeXp r c t n) := by
  refine ⟨hs.1.write r c t n, fun b c' hx => ?_⟩
  rcases Matrix.nonOff_of_write hx with hold | ⟨⟨rfl, rfl⟩, ht⟩
  · exact hs.2 b c' hold
  · exact State.legal_busRow (h.resolve_right ht)

theorem Lawful.setBus {s : State} (hs : Lawful s) (i : Fin 64) {b : Bus} (h : b.tier = s.buses[i].tier) :
    Lawful (s.setBus i b) := by
  refine hs.of_tiers rfl fun j => ?_
  by_cases e : i.val = j.val
  · obtain rfl := Fin.ext e
    simpa [State.setBus] using h
  · simp [State.setBus, e]

/-- R84, the tier check in the words of the statements: what refuses a new tier of a bus. -/
theorem State.tierFits_iff (s : State) (b : Fin 64) (t : Fin 4) :
    s.tierFits b t = true ↔ ¬(t ≠ s.buses[b].tier ∧ ∃ c : Fin 64, c ≠ b ∧
      (((s.matrix.cell (busRow b) c).nonOff = true ∧ s.buses[c].tier ≤ t) ∨
        ((s.matrix.cell (busRow c) b).nonOff = true ∧ t ≤ s.buses[c].tier))) := by
  simp only [State.tierFits, Bool.or_eq_true, decide_eq_true_eq, List.all_eq_true, List.mem_finRange, forall_const,
    beq_iff_eq, Bool.and_eq_true, Bool.not_eq_true', not_and, not_exists, not_or, not_le, ← Bool.not_eq_true,
    Decidable.imp_iff_not_or, ne_eq, not_not]

/-- R84: a bus that is given a tier that fits. -/
theorem Lawful.retier {s : State} (hs : Lawful s) {i : Fin 64} {b : Bus} (h : s.tierFits i b.tier = true) :
    Lawful (s.setBus i b) := by
  by_cases hsame : b.tier = s.buses[i].tier
  · exact hs.setBus i hsame
  have hfit : ∀ c : Fin 64, c ≠ i → ¬(((s.matrix.cell (busRow i) c).nonOff = true ∧ s.buses[c].tier ≤ b.tier) ∨
      ((s.matrix.cell (busRow c) i).nonOff = true ∧ b.tier ≤ s.buses[c].tier)) := fun c hc hbad =>
    (s.tierFits_iff i b.tier).1 h ⟨hsame, c, hc, hbad⟩
  have htier : ∀ j : Fin 64, (s.setBus i b).buses[j].tier = if j = i then b.tier else s.buses[j].tier := fun j => by
    by_cases e : j = i
    · subst e
      simp [State.setBus]
    · have hne : i.val ≠ j.val := fun h => e (Fin.ext h.symm)
      simp [State.setBus, e, hne]
  refine ⟨hs.1, fun j c hx => ?_⟩
  have hold := hs.2 j c hx
  rw [htier, htier]
  by_cases hj : j = i <;> by_cases hc : c = i
  · rw [hj, hc] at hold
    exact absurd hold (lt_irrefl _)
  · rw [if_pos hj, if_neg hc]
    exact not_le.1 fun hle => hfit c hc (.inl ⟨hj ▸ hx, hle⟩)
  · rw [if_neg hj, if_pos hc]
    exact not_le.1 fun hle => hfit j hj (.inr ⟨hc ▸ hx, hle⟩)
  · rw [if_neg hj, if_neg hc]
    exact hold

theorem Lawful.applyMove {s : State} (hs : Lawful s) (m : Move) : Lawful (s.applyMove m) := by
  cases m with
  | xpTarget r c code n =>
    rw [State.applyMove_xpTarget]
    split
    · next h => exact hs.writeXp n h
    · exact hs
  | busLevel i code n => exact hs.setBus i rfl
  | busMute i on =>
    refine hs.setBus i ?_
    rw [Bus.setMute_eq]
  | punchIn i =>
    unfold State.applyMove
    dsimp only
    split <;> exact hs
  | punchOut i =>
    unfold State.applyMove
    dsimp only
    split <;> exact hs
  | _ => exact hs

/-! ### The engine frame -/

theorem Lawful.applyDue (n : Nat) {s : State} (hs : Lawful s) : Lawful (State.applyDue n s) := by
  induction n generalizing s with
  | zero => exact hs
  | succ n ih =>
    unfold State.applyDue
    split
    · exact hs
    · next e rest _ =>
      split
      · exact hs
      · split
        · exact hs
        · obtain ⟨_, h⟩ := State.countDeferred_touches ({ s with queue := rest }.applyMove e.move) e.due
          have hmoved : Lawful ({ s with queue := rest }.applyMove e.move) := Lawful.applyMove (s := { s with queue := rest }) hs _
          refine ih (hmoved.of_same ?_ ?_) <;> rw [h]

theorem Lawful.frameEvents {s : State} (hs : Lawful s) (src : FrameSource) : Lawful (s.frameEvents src) := by
  have htrack : Lawful (s.frameStart.track src) := by
    obtain ⟨_, _, _, _, h1⟩ := State.frameStart_touches s
    obtain ⟨_, _, _, h2⟩ := State.track_touches s.frameStart src
    refine hs.of_same ?_ ?_ <;> rw [h2, h1]
  unfold State.frameEvents State.automate
  split
  · exact htrack.applyDue appliedPerFrame
  · exact htrack

theorem Lawful.frameMoves {s : State} (hs : Lawful s) (src : FrameSource) : Lawful (s.frameMoves src) := by
  have hevents := hs.frameEvents src
  refine hevents.of_nonOff ?_ (fun b => ?_) fun r c h => ?_
  · rw [State.frameMoves_matrix]
    exact hevents.1.advance
  · rw [(State.frameMoves_ramps s src).2.2 b]
    rfl
  · rw [State.frameMoves_matrix] at h
    exact Matrix.nonOff_of_advance hevents.1 h

theorem Lawful.computeFrame {s : State} (hs : Lawful s) (src : FrameSource) : Lawful (s.computeFrame src) := by
  refine hs.of_tiers (State.computeFrame_matrix s src) fun b => ?_
  rw [State.computeFrame_eq, State.holdResults_buses, State.noteClips_buses]

theorem Lawful.visit {s : State} (hs : Lawful s) (n : Fin 8) (k : Nat) : Lawful (s.visit n k) := by
  refine State.foldl_touches (P := fun s t => Lawful s → Lawful t) (fun _ => id) (fun _ _ _ f g => g ∘ f) ?_ _ s hs
  intro s j hs
  split
  · exact hs.writeXp n (.inr rfl)
  · exact hs

theorem Lawful.sweepVisits {s : State} (hs : Lawful s) : Lawful s.sweepVisits := by
  unfold State.sweepVisits
  split
  · exact hs
  · next n left _ =>
    have hv := hs.visit n (16384 - left)
    dsimp only
    split <;> exact hv.of_same rfl rfl

theorem Lawful.engineFrame {s : State} (hs : Lawful s) (src : FrameSource) : Lawful (s.engineFrame src) :=
  ((hs.frameMoves src).computeFrame src).sweepVisits

/-! ### Commands (R158) -/

theorem Lawful.putSlot {s : State} (hs : Lawful s) (i : Fin 128) (a b c d : Nat) : (s.putSlot i a b c d).Leaves Lawful :=
  .ranged trivial fun _ _ => .ranged trivial fun _ _ => .ok hs

/-- Of the records only those of BUS reach the tiers (R84). -/
theorem Lawful.writeRecord {s : State} (hs : Lawful s) (space : Fin 8) (idx : Nat) (o : List Octet) :
    (s.writeRecord space idx o).Leaves Lawful := by
  unfold State.writeRecord
  split
  · exact .ranged trivial fun _ _ => .ranged trivial fun _ _ => .ok hs
  · refine .ranged trivial fun i _ => .ranged trivial fun f _ => .ite (fun hfit => .ok (hs.retier ?_)) fun _ => .error trivial
    rw [Bus.setMute_eq]
    exact hfit
  · exact .ranged trivial fun _ _ => .ranged trivial fun _ _ => .ok hs
  · exact .ranged trivial fun _ _ => .ranged trivial fun _ _ => .ok hs
  · exact .ranged trivial fun _ _ => .ranged trivial fun _ _ => .ite (fun _ => .ok hs) fun _ => .error trivial
  · exact .ranged trivial fun i _ => .ite (fun _ => .error trivial) fun _ => hs.putSlot i _ _ _ _
  · exact .ranged trivial fun _ _ => .ranged trivial fun _ _ => .ok hs
  · exact .ranged trivial fun _ _ => .ranged trivial fun _ _ => .ok hs

theorem Lawful.writeRecords (space : Fin 8) (idx : Nat) (recs : List (List Octet)) {s : State} (hs : Lawful s) :
    Lawful (State.writeRecords space idx recs s).state := by
  induction recs generalizing idx s with
  | nil => exact hs
  | cons o rest ih =>
    unfold State.writeRecords
    split
    · exact hs
    · next s1 h1 => exact ih (idx + 1) ((hs.writeRecord space idx o).2 s1 h1)

theorem Lawful.doWriteTable {s : State} (hs : Lawful s) (p : List Octet) : Lawful (doWriteTable p s).state := by
  unfold Machine.doWriteTable
  split
  · exact hs
  · split
    · exact hs
    · next space _ =>
      dsimp only
      split
      · exact hs
      · dsimp only [Reply.counted]
        have hrecs := hs.writeRecords space (p.getD 1 0).toNat (records (recordSize space) (p.drop 2))
        obtain ⟨_, _, _, _, _, h⟩ := State.afterWrite_touches s
          (State.writeRecords space (p.getD 1 0).toNat (records (recordSize space) (p.drop 2)) s).state space
          (p.getD 1 0).toNat (State.writeRecords space (p.getD 1 0).toNat (records (recordSize space) (p.drop 2)) s).count
        refine hrecs.of_same ?_ ?_ <;> rw [h]

theorem Lawful.writeBusField {s : State} (hs : Lawful s) (idx field : Nat) (v : Int) :
    (s.writeBusField idx field v).Leaves Lawful := by
  refine .ranged trivial fun i _ => ?_
  split
  · exact .ranged trivial fun t _ => .ite (fun hfit => .ok (hs.retier hfit)) fun _ => .error trivial
  · exact .ok (hs.setBus i rfl)
  · refine .ranged trivial fun m _ => .ok (hs.setBus i ?_)
    rw [Bus.setMute_eq]
  · exact .ranged trivial fun n _ => .ok (hs.setBus i rfl)
  · exact .error trivial

theorem Lawful.writeOneField {s : State} (hs : Lawful s) (space idx field : Nat) (v : Int) :
    (s.writeOneField space idx field v).Leaves Lawful := by
  unfold State.writeOneField
  split
  · refine .ranged trivial fun _ _ => ?_
    split
    · exact .ok hs
    · exact .ranged trivial fun _ _ => .ok hs
    · exact .ranged trivial fun _ _ => .ok hs
    · exact .ranged trivial fun _ _ => .ok hs
    · exact .ranged trivial fun _ _ => .ok hs
    · exact .error trivial
  · exact hs.writeBusField idx field v
  · refine .ranged trivial fun _ _ => ?_
    split
    · exact .ok hs
    · exact .ranged trivial fun _ _ => .ok hs
    · exact .error trivial
  · refine .ranged trivial fun i _ => .ite (fun _ => .error trivial) fun _ => .ranged trivial fun _ _ => ?_
    dsimp only
    split
    · exact hs.putSlot i _ _ _ _
    · exact hs.putSlot i _ _ _ _
    · exact hs.putSlot i _ _ _ _
    · exact hs.putSlot i _ _ _ _
    · exact .error trivial
  · exact .ite (fun _ => .error trivial) fun _ => .error trivial

theorem Lawful.doWriteField {s : State} (hs : Lawful s) (p : List Octet) : Lawful (doWriteField p s).state := by
  unfold Machine.doWriteField
  split
  · exact hs
  · next s1 h1 => exact (hs.writeOneField _ _ _ _).2 s1 h1

/-- R91: a cell that is not skipped is legal, or is written off. -/
theorem Lawful.gainCell {s : State} (hs : Lawful s) (n : Fin 8) (code : Int) : Lawful (s.gainCell n code) := by
  unfold State.gainCell
  split
  · exact hs
  · next h =>
    obtain ⟨hkeep, hskip⟩ := not_or.1 h
    refine hs.writeXp n ?_
    by_contra hbad
    obtain ⟨hlegal, hoff⟩ := not_or.1 hbad
    refine hskip ?_
    simp [State.skipsCell, hkeep, hlegal, offCode, hoff]

theorem Lawful.gainCells (n : Fin 8) (l : List Int) {s : State} (hs : Lawful s) : Lawful (State.gainCells n l s).1 := by
  induction l generalizing s with
  | nil => exact hs
  | cons code rest ih => exact ih (hs.gainCell n code)

theorem Lawful.readCells (n : Nat) {s : State} (hs : Lawful s) : Lawful (State.readCells n s).1 := by
  induction n generalizing s with
  | zero => exact hs
  | succ n ih => exact ih (s := s.stepWindow) hs

theorem Lawful.takeEvents (l : List (List Octet)) (n : Nat) {s : State} (hs : Lawful s) :
    Lawful (State.takeEvents l n s).state := by
  induction l generalizing n s with
  | nil => exact hs
  | cons o rest ih =>
    unfold State.takeEvents
    split
    · exact hs
    · next e _ =>
      split
      · exact ih _ (s := s.applyLate e) (hs.applyMove e.move)
      · split
        · exact ih _ (s := { s with queue := insertEvent e s.queue }) hs
        · exact hs

theorem Lawful.punchRun {s : State} (hs : Lawful s) (first count : Nat) (into : Bool) : Lawful (s.punchRun first count into) := by
  refine State.foldl_touches (P := fun s t => Lawful s → Lawful t) (fun _ => id) (fun _ _ _ f g => g ∘ f) ?_ _ s hs
  intro s j hs
  split
  · split <;> exact hs
  · exact hs

/-- R79, R100: the engine reset leaves every crosspoint at its target, or off. -/
theorem MatrixOk.settle (m : Matrix) (sweeping : Bool) : MatrixOk (m.settle sweeping) := by
  have hcell := m.settle_cell sweeping
  have hpend : ∀ r c, ((m.settle sweeping).cell r c).pend = false := fun r c => by
    rw [hcell]
    split <;> rfl
  refine (matrixOk_iff _).2 ⟨⟨Nat.zero_le _, List.Pairwise.nil, fun r c => Matrix.xpOk_standing rfl ?_,
    ⟨List.Pairwise.nil, fun w hw => nomatch hw⟩, fun r c => iff_of_false ?_ fun ⟨w, hw, _⟩ => nomatch hw⟩,
    fun hne => absurd rfl hne⟩
  · rw [hcell]
    split <;> rfl
  · rw [hpend]
    exact fun e => nomatch e

theorem Lawful.engineReset {s : State} (hs : Lawful s) : Lawful s.engineReset := by
  refine hs.of_nonOff (.settle s.matrix s.sweep.busy) (fun b => ?_) fun r c h => ?_
  · simp only [State.engineReset, Fin.getElem_fin, mapAll_getElem]
    rfl
  · rw [Xp.nonOff_iff] at h ⊢
    change ((s.matrix.settle s.sweep.busy).cell r c).cur ≠ -960 ∨ ((s.matrix.settle s.sweep.busy).cell r c).tgt ≠ -960 at h
    rw [Matrix.settle_cell] at h
    split at h
    · exact absurd h (by decide)
    · exact .inr (h.elim id id)

/-- Of the commands, WRITE_TABLE, WRITE_FIELD, WRITE_GAINS, QUEUE_EVENTS and ENGINE_RESET reach the matrix or a tier. -/
theorem Lawful.doCommand {s : State} (hs : Lawful s) (k : Nat) (p : List Octet) : Lawful (doCommand k p s).state := by
  unfold Machine.doCommand
  split
  · exact hs
  · unfold doReadTable
    split
    · exact hs
    · dsimp only
      split <;> exact hs.of_same rfl rfl
  · exact hs.doWriteTable p
  · exact hs.doWriteField p
  · unfold doSetWindow
    split <;> exact hs.of_same rfl rfl
  · unfold doWriteGains
    split
    · exact hs
    · split
      · exact hs
      · exact hs.gainCells _ _
  · unfold doReadGains
    dsimp only
    split
    · exact hs.readCells _
    · exact hs
  · unfold doMatrixClear
    split
    · exact hs
    · split <;> exact hs.of_same rfl rfl
  · exact hs.takeEvents _ _
  · exact hs.of_same rfl rfl
  · unfold doPunch
    dsimp only
    split
    · exact hs
    · split
      · exact hs
      · exact hs.punchRun _ _ _
  · exact hs
  · unfold doClearFlags
    split <;> exact hs.of_same rfl rfl
  · unfold doTestAndClear
    split <;> exact hs.of_same rfl rfl
  · unfold doReadCounters
    dsimp only
    split
    · split
      · exact hs
      · dsimp only [Reply.withData]
        split <;> exact hs.of_same rfl rfl
    · exact hs
  · exact hs.engineReset
  · exact hs

theorem Lawful.execute {s : State} (hs : Lawful s) (m : Message) : Lawful (s.execute m) := by
  have hrun : Lawful (runMessage m s).state := by
    unfold runMessage
    split
    · exact hs
    · split
      · exact hs
      · exact hs.doCommand _ _
  exact hrun

theorem Lawful.takeMessage {s : State} (hs : Lawful s) : Lawful s.takeMessage := by
  unfold State.takeMessage
  split
  · exact hs
  · next m rest _ =>
    split
    · exact Lawful.execute (s := { s with commands := rest }) hs m
    · exact hs

theorem Lawful.submit {s : State} (hs : Lawful s) (m : Message) : Lawful (s.submit m) := by
  refine State.takeMessages_keeps (P := Lawful) (fun _ => Lawful.takeMessage) _ _ ?_
  obtain ⟨_, _, h⟩ := State.joinMessage_touches s m
  refine hs.of_same ?_ ?_ <;> rw [h]

/-! ### The rows of the table -/

theorem Lawful.endEvent {s : State} (hs : Lawful s) (l : Link) (n : Nat) (src : FrameSource) : Lawful (s.endEvent l n src) :=
  State.endEvent_keeps (P := Lawful) src (fun _ => Lawful.takeMessage) (fun _ _ h => h.engineFrame src) s l n hs

theorem Lawful.failFrame {s : State} (hs : Lawful s) (l : Link) (bad : Bool) : Lawful (s.failFrame l bad) := by
  obtain ⟨_, _, _, _, _, h⟩ := State.failFrame_touches s l bad
  refine hs.of_same ?_ ?_ <;> rw [h]

theorem Lawful.breakLane {s : State} (hs : Lawful s) (l : Link) (was : LinkState) : Lawful (s.breakLane l was) := by
  obtain ⟨_, _, h⟩ := State.breakLane_touches s l was
  refine hs.of_same ?_ ?_ <;> rw [h]

theorem Lawful.noteArrival {s : State} (hs : Lawful s) (l : Link) (was : ClockState) (dt : Nat) :
    Lawful (s.noteArrival l was dt) := by
  obtain ⟨_, h⟩ := State.noteArrival_touches s l was dt
  refine hs.of_same ?_ ?_ <;> rw [h]

theorem Lawful.noteMissed {s : State} (hs : Lawful s) (l : Link) : Lawful (s.noteMissed l) := by
  obtain ⟨_, h⟩ := State.noteMissed_touches s l
  refine hs.of_same ?_ ?_ <;> rw [h]

theorem Lawful.takeFrame {s : State} (hs : Lawful s) (l : Link) (f : LinkFrame) (dt : Nat) : Lawful (s.takeFrame l f dt) := by
  have hreceived : Lawful (s.receive l f) := by
    obtain ⟨_, _, _, _, _, h⟩ := State.receive_touches s l f
    refine hs.of_same ?_ ?_ <;> rw [h]
  obtain ⟨_, _, _, h⟩ := State.readLane_touches ((s.receive l f).noteArrival l s.clock.state dt) l f.lane
  refine (hreceived.noteArrival l s.clock.state dt).of_same ?_ ?_ <;> rw [State.takeFrame, h]

theorem Lawful.badEvent {s : State} (hs : Lawful s) (l : Link) (dt : Nat) : Lawful (s.badEvent l dt) := by
  unfold State.badEvent
  split
  · exact hs
  · exact (((hs.failFrame l true).noteArrival l _ dt).breakLane l _).endEvent l _ _

theorem Lawful.missingEvent {s : State} (hs : Lawful s) (l : Link) : Lawful (s.missingEvent l) := by
  unfold State.missingEvent
  split
  · exact hs
  · exact (((hs.failFrame l false).noteMissed l).breakLane l _).endEvent l _ _

/-- R75: the completion of an entry leaves its crosspoint at a target that it had. -/
theorem Lawful.completeEntry {s : State} (hs : Lawful s) {r : Fin 256} {c : Fin 64} {e : PoolEntry}
    (he : s.matrix.entry r c = some e) : Lawful { s with matrix := s.matrix.completeEntry e } := by
  have hstep := Matrix.completeEntry_eq_stepTo hs.1 he
  refine hs.of_nonOff ?_ (fun _ => rfl) fun r' c' h => ?_
  · dsimp only
    rw [hstep]
    exact hs.1.stepTo r c _
  · dsimp only at h
    rw [hstep] at h
    rcases Matrix.nonOff_of_stepTo h with hold | ⟨⟨rfl, rfl⟩, ht⟩
    · exact hold
    · rw [Xp.nonOff_iff, ((hs.1.agrees.xp _ _).1 e he).2.2.2]
      exact .inr ht

/-- Every row of the table keeps the matrix and the tier law. -/
theorem Lawful.exec {s t : State} (hs : Lawful s) (c : Instr) (h : exec c s = .next t) : Lawful t := by
  have taken : ∀ n, Lawful (State.takeMessages n s) := fun n =>
    State.takeMessages_keeps (P := Lawful) (fun _ => Lawful.takeMessage) n s hs
  cases c with
  | passingFrame l o dt n =>
    rw [Machine.exec, execPassingFrame] at h
    split at h
    · next f _ =>
      cases h
      exact ((taken _).takeFrame l f dt).endEvent l _ _
    · cases h
      exact (taken _).badEvent l dt
  | badFrame l dt =>
    cases h
    exact hs.badEvent l dt
  | missingFrame l =>
    cases h
    exact hs.missingEvent l
  | oscillatorPeriod =>
    cases h
    exact State.periodEvent_keeps (P := Lawful) (fun _ => Lawful.takeMessage) (fun _ _ h => h.engineFrame .oscillator) s hs
  | startUpReset =>
    cases h
    obtain ⟨hmatrix, htier, _⟩ := resetHasEveryKeptProperty
    exact ⟨hmatrix, htier⟩
  | rampCompletion r c =>
    rw [Machine.exec, execRampCompletion] at h
    split at h
    · next e he =>
      cases h
      split
      · exact hs.completeEntry he
      · exact hs
    · cases h
      exact hs
  | punchArrival i =>
    cases h
    split <;> exact hs
  | sweepCompletion =>
    cases h
    split
    · exact hs.sweepVisits
    · exact hs
  | coalescingTimerExpiry =>
    rw [Machine.exec, execCoalescingTimerExpiry] at h
    split at h
    · cases h
      split <;> exact hs
    · cases h
      exact hs
  | noticeComposition =>
    cases h
    exact hs
  | _ =>
    cases h
    exact hs.submit _

theorem Lawful.step {s t : State} (hs : Lawful s) (h : step s = .next t) : Lawful t := by
  unfold Machine.step at h
  split at h
  · cases h
    exact hs.takeMessage
  · next c rest _ => exact Lawful.exec (s := { s with pending := rest }) hs c h

/-- Settles O53: every operation that reaches the matrix or a tier keeps `Lawful`: writes under R82 and R83, the ramp advance,
the tier check of R84 and the engine reset; the others reach neither. -/
theorem matrixAndTierLawKept : Obligations.MatrixAndTierLawKept := fun _ _ hm ht h => Lawful.step ⟨hm, ht⟩ h

end Sys2Proof.Machine
end

section
namespace Sys2Proof.Machine

/-! ### WRITE_TABLE of one BUS record (R66, R67, R68, R84) -/

theorem busFields?_taken {tier hi lo m n : Octet} {t : Fin 4} {cls : Fin 8} (ht : tier.toNat = t.val) (hm : m.toNat ≤ 1)
    (hn : n.toNat = cls.val) :
    busFields? [tier, hi, lo, m, n] = some ⟨t, clampCode (signed16 hi lo), decide (m.toNat = 1), cls⟩ := by
  simp only [busFields?, List.getD_cons_zero, List.getD_cons_succ, ht, bit?_of_le hm, hn, index?_val]
  rfl

theorem busFields?_refused {tier hi lo m n : Octet} (h : 3 < tier.toNat ∨ 1 < m.toNat ∨ 7 < n.toNat) :
    busFields? [tier, hi, lo, m, n] = none := by
  rw [Option.eq_none_iff_forall_ne_some]
  intro f hf
  simp only [busFields?, List.getD_cons_zero, List.getD_cons_succ, Option.bind_eq_bind, Option.bind_eq_some_iff] at hf
  obtain ⟨_, ht, _, hm, _, hn, _⟩ := hf
  rcases h with h | h | h
  · exact nomatch (index?_of_le h).symm.trans ht
  · exact nomatch (bit?_of_lt h).symm.trans hm
  · exact nomatch (index?_of_le h).symm.trans hn

/-- Settles O15: the record is judged by `busFields?` and then by `State.tierFits_iff`, and `Bus.setMute_eq` says what becomes
of the mute. -/
theorem writeBusRecord : Obligations.WriteBusRecord := by
  intro s hready
  refine ⟨fun tag idx tier hi lo m n h => ?_, fun tag hi lo m n b tier cls hm hn => ?_⟩
  · refine exec_writeTable_refused hready tag idx (space := 1) (by decide) (by decide) rfl (e := .range) ?_
    change s.writeBus idx.toNat [tier, hi, lo, m, n] = _
    rcases h with h | h
    · exact ranged_index_refused h _
    · rw [State.writeBus, busFields?_refused h]
      exact ranged_refused _ fun _ => rfl
  · intro bus code len on nonOff refused command
    have hwrite : s.writeRecord 1 (octet b.val).toNat [octet tier.val, hi, lo, m, n] =
        if s.tierFits b tier then .ok (s.putBus b ⟨tier, code, on, cls⟩) else .error .tier := by
      change s.writeBus (octet b.val).toNat [octet tier.val, hi, lo, m, n] = _
      rw [State.writeBus, toNat_octet (by omega), ranged_index_val,
        busFields?_taken (toNat_octet (by omega)) hm hn]
      rfl
    have hfits : s.tierFits b tier = true ↔ ¬refused := by
      rw [State.tierFits_iff]
      simp only [Xp.nonOff_iff]
      exact Iff.rfl
    refine ⟨fun h => ?_, fun h => ?_⟩
    · refine exec_writeTable_refused hready tag (octet b.val) (space := 1) (by decide) (by decide) rfl (e := .tier) ?_
      exact hwrite.trans (if_neg fun hf => hfits.1 hf h)
    · refine exec_writeTable_written hready tag (octet b.val) (space := 1) (by decide) (by decide) rfl ?_
      refine hwrite.trans ((if_pos (hfits.2 h)).trans ?_)
      rw [State.putBus, Bus.setMute_eq]
      rfl

end Sys2Proof.Machine
end

section
namespace Sys2Proof.Machine

/-! ### Ramps, advance by advance (R61 to R63) -/

theorem Ramp.aim_zero (r : Ramp) (t : Int) : r.aim t 0 = standing t := if_pos rfl

theorem Ramp.aim_of_pos (r : Ramp) (t : Int) {len : Nat} (h : 0 < len) : r.aim t len = ⟨r.cur, t, len, 0⟩ :=
  if_neg h.ne'

theorem Ramp.cur_of_lt {r : Ramp} (h : r.k < r.len) :
    r.cur = r.start + ((r.target - r.start) * (r.k : Int)).tdiv (r.len : Int) := if_neg (Nat.not_le.2 h)

theorem Ramp.cur_of_le {r : Ramp} (h : r.len ≤ r.k) : r.cur = r.target := if_pos h

/-- R62: advances raise the step count one by one, up to the length. -/
theorem Ramp.advance_repeat (a t : Int) (len j : Nat) : Nat.repeat Ramp.advance j ⟨a, t, len, 0⟩ = ⟨a, t, len, min j len⟩ := by
  induction j with
  | zero => simp [Nat.repeat]
  | succ j ih =>
    rw [Nat.repeat, ih]
    rcases Nat.lt_or_ge j len with h | h
    · rw [Nat.min_eq_left h.le, Ramp.advance_of_lt h, Nat.min_eq_left h]
    · rw [Nat.min_eq_right h, Ramp.advance_of_le (Nat.le_refl len), Nat.min_eq_right (h.trans (Nat.le_succ j))]

/-- Settles O52: a ramp by the two cases of its step count, and a run of advances by `Ramp.advance_repeat`. -/
theorem rampLaw : Obligations.RampLaw := by
  refine ⟨by decide, fun r t len => ⟨?_, fun h => ?_, fun h => ⟨Ramp.advance_of_lt h, Ramp.cur_of_lt h⟩,
    fun h => ⟨Ramp.advance_of_le h, Ramp.cur_of_le h⟩, r.cur_between.1, r.cur_between.2, fun j h hj => ?_⟩⟩
  · rw [Ramp.aim_zero]
    exact Ramp.cur_of_le (Nat.le_refl 0)
  · rw [Ramp.aim_of_pos r t h]
    exact ⟨rfl, Ramp.cur_begun r.cur t h⟩
  · rw [Ramp.aim_of_pos r t h, Ramp.advance_repeat, Nat.min_eq_right hj]
    exact Ramp.cur_of_le (Nat.le_refl len)

end Sys2Proof.Machine
end

section
namespace Sys2Proof.Machine

/-! ### The multiplier table (R59, R60) -/

/-- R60: `g` is the integer nearest to 65,536 × 10^(code/160), halves upward, by 160th powers of 2 g − 1, twice that number and
2 g + 1. -/
abbrev nearestGain (code : Int) (g : Nat) : Prop :=
  (0 ≤ code → (2 * g - 1) ^ 160 ≤ 131072 ^ 160 * 10 ^ code.toNat ∧ 131072 ^ 160 * 10 ^ code.toNat < (2 * g + 1) ^ 160) ∧
  (code < 0 → (2 * g - 1) ^ 160 * 10 ^ (-code).toNat ≤ 131072 ^ 160 ∧
    131072 ^ 160 < (2 * g + 1) ^ 160 * 10 ^ (-code).toNat)

/-- The numbers of a list are those of the codes from `code` on. -/
def nearestFrom : Int → List Nat → Bool
  | _, [] => true
  | code, g :: rest => decide (nearestGain code g) && nearestFrom (code + 1) rest

theorem nearestGain_of_nearestFrom {code : Int} {l : List Nat} (h : nearestFrom code l = true) {j : Nat} (hj : j < l.length) :
    nearestGain (code + j) (l.getD j 0) := by
  induction l generalizing code j with
  | nil => exact absurd hj (Nat.not_lt_zero j)
  | cons g rest ih =>
    obtain ⟨hg, hrest⟩ := Bool.and_eq_true_iff.1 h
    cases j with
    | zero => simpa using of_decide_eq_true hg
    | succ j =>
      have htail := ih hrest (Nat.lt_of_succ_lt_succ hj)
      rwa [Int.add_assoc, Int.add_comm 1, ← Int.natCast_succ] at htail

/-- The table is data: its numbers are compared one by one. -/
theorem nearestFrom_gainTable : nearestFrom (-960) gainTable = true := by decide +kernel

theorem gainTable_length : gainTable.length = 1105 := by decide +kernel

theorem gainTable_le : ∀ g ∈ gainTable, g ≤ 520571 := by decide +kernel

theorem gain_le (e : Int) : gain e ≤ 520571 := by
  rw [gain, List.getD_eq_getElem?_getD]
  cases h : gainTable[(e + 960).toNat]? with
  | none => exact Nat.zero_le _
  | some g => exact gainTable_le g (List.mem_of_getElem? h)

theorem isOff_iff (codes : List Int) :
    isOff codes = true ↔ -960 ∈ codes ∨ clampInt (-960) 144 codes.sum = -960 := by
  simp only [isOff, Bool.or_eq_true, List.any_eq_true, beq_iff_eq, exists_eq_right, offCode, effective]

theorem multiplier_off {codes : List Int} (h : -960 ∈ codes ∨ clampInt (-960) 144 codes.sum = -960) : multiplier codes = 0 :=
  if_pos ((isOff_iff codes).2 h)

theorem multiplier_on {codes : List Int} (h : ¬(-960 ∈ codes ∨ clampInt (-960) 144 codes.sum = -960)) :
    multiplier codes = gain (clampInt (-960) 144 codes.sum) := if_neg (mt (isOff_iff codes).1 h)

/-- Settles O51: the numbers of the table one by one, and the multiplier of a code by whether it is off. -/
theorem gainTableIsNearest : Obligations.GainTableIsNearest := by
  refine ⟨fun e => ?_, fun codes => multiplier_off, fun codes => multiplier_on, fun codes => ?_⟩
  · intro code g
    have hnear := nearestGain_of_nearestFrom nearestFrom_gainTable (j := e.val + 1) (by rw [gainTable_length]; omega)
    have hcode : -960 + ((e.val + 1 : Nat) : Int) = code := by
      simp only [code]
      omega
    have hg : gainTable.getD (e.val + 1) 0 = g := by
      have hplace : (code + 960).toNat = e.val + 1 := by omega
      simp only [g, gain, hplace]
    rwa [hcode, hg] at hnear
  · by_cases h : -960 ∈ codes ∨ clampInt (-960) 144 codes.sum = -960
    · rw [multiplier_off h]
      exact Nat.zero_le _
    · rw [multiplier_on h]
      exact gain_le _

end Sys2Proof.Machine
end

section
namespace Sys2Proof.Machine

/-! ### The order of the buses (R101) -/

theorem State.mem_busOrder (s : State) (c : Fin 64) : c ∈ s.busOrder := by
  simp [State.busOrder]

theorem State.busOrder_nodup (s : State) : s.busOrder.Nodup := by
  refine List.nodup_flatMap.2 ⟨fun t _ => (List.nodup_finRange 64).filter _, (List.nodup_finRange 4).imp fun hne => ?_⟩
  refine List.disjoint_left.2 fun c hc hc' => hne ?_
  have h := (List.mem_filter.1 hc).2
  have h' := (List.mem_filter.1 hc').2
  rw [beq_iff_eq] at h h'
  exact h.symm.trans h'

/-- A bus of a lower tier is computed before one of a higher. -/
theorem State.busOrder_ascending (s : State) : s.busOrder.Pairwise fun b c => s.buses[b].tier ≤ s.buses[c].tier := by
  refine List.pairwise_flatMap.2 ⟨fun t _ => ?_, (List.pairwise_lt_finRange 4).imp fun hlt b hb c hc => ?_⟩
  · refine List.pairwise_of_forall_mem_list fun b hb c hc => ?_
    rw [beq_iff_eq.1 (List.mem_filter.1 hb).2, beq_iff_eq.1 (List.mem_filter.1 hc).2]
  · rw [beq_iff_eq.1 (List.mem_filter.1 hb).2, beq_iff_eq.1 (List.mem_filter.1 hc).2]
    exact hlt.le

/-! ### All 64 sums (R101 to R110) -/

section
variable (s : State) (xs : Vector Int 192)

/-- A bus that is not among those computed keeps what it has. -/
theorem State.foldl_computeBus_ne (l : List (Fin 64)) (a : Sums) {c : Fin 64} (h : c ∉ l) :
    (l.foldl (s.computeBus xs) a).out[c] = a.out[c] ∧ (l.foldl (s.computeBus xs) a).clipped[c] = a.clipped[c] := by
  induction l generalizing a with
  | nil => exact ⟨rfl, rfl⟩
  | cons b l ih =>
    obtain ⟨hne, hl⟩ := List.ne_and_not_mem_of_not_mem_cons h
    have hv : b.val ≠ c.val := fun e => hne (Fin.ext e.symm)
    obtain ⟨hout, hclip⟩ := ih (s.computeBus xs a b) hl
    rw [List.foldl_cons, hout, hclip]
    exact ⟨Vector.getElem_set_ne b.isLt c.isLt hv, Vector.getElem_set_ne b.isLt c.isLt hv⟩

/-- R103: two sets of bus outputs give one sum when they agree where the column has a crosspoint that is not off. -/
theorem State.accumulate_congr (ys zs : Vector Int 64) (c : Fin 64)
    (h : ∀ b : Fin 64, (s.matrix.cell (busRow b) c).cur ≠ -960 → ys[b] = zs[b]) :
    s.accumulate xs ys c = s.accumulate xs zs c := by
  unfold State.accumulate
  congr 1
  refine List.map_congr_left fun r _ => ?_
  unfold rowSample
  split
  · rfl
  · next hr =>
    obtain ⟨b, rfl⟩ : ∃ b, r = busRow b := ⟨⟨r.val - 192, by omega⟩, Fin.ext (by simp only [busRow]; omega)⟩
    by_cases hoff : (s.matrix.cell (busRow b) c).cur = -960
    · have hzero : multiplier (s.xpCodes (busRow b) c) = 0 :=
        multiplier_off (.inl (by rw [State.xpCodes, dif_neg hr, hoff]; exact List.mem_singleton_self _))
      rw [hzero]
      simp
    · have hb : (busRow b).val - 192 = b.val := by simp [busRow]
      have hsame := h b hoff
      simp only [Fin.getElem_fin] at hsame
      simp only [hb, hsame]

/-- Under the tier law each bus is the sum of its column, over the outputs of the whole frame. -/
theorem State.computeBuses_get (h : TierLaw s) (c : Fin 64) :
    (s.computeBuses xs).out[c] =
        (busResult (s.accumulate xs (s.computeBuses xs).out c) (multiplier (s.postCodes c))).out ∧
      (s.computeBuses xs).clipped[c] =
        (busResult (s.accumulate xs (s.computeBuses xs).out c) (multiplier (s.postCodes c))).clipped := by
  obtain ⟨before, after, hsplit⟩ := List.append_of_mem (s.mem_busOrder c)
  have hnodup := s.busOrder_nodup
  have hascending := s.busOrder_ascending
  rw [hsplit] at hnodup hascending
  obtain ⟨_, hrest, hapart⟩ := List.nodup_append.1 hnodup
  have hafter : c ∉ after := (List.nodup_cons.1 hrest).1
  have hwhole : s.computeBuses xs = after.foldl (s.computeBus xs) (s.computeBus xs (before.foldl (s.computeBus xs) noSums) c) := by
    rw [State.computeBuses, hsplit, List.foldl_append, List.foldl_cons]
  have hsum : s.accumulate xs (before.foldl (s.computeBus xs) noSums).out c = s.accumulate xs (s.computeBuses xs).out c := by
    refine s.accumulate_congr xs _ _ c fun b hb => ?_
    have hlt := h b c ((Xp.nonOff_iff _).2 (.inl hb))
    have hbefore : b ∈ before := by
      have hmem := s.mem_busOrder b
      rw [hsplit, List.mem_append, List.mem_cons] at hmem
      rcases hmem with hmem | rfl | hmem
      · exact hmem
      · exact absurd hlt (lt_irrefl _)
      · have hle := (List.pairwise_cons.1 (List.pairwise_append.1 hascending).2.1).1 b hmem
        exact absurd hlt (not_lt.2 hle)
    have hno : b ∉ c :: after := fun hmem => hapart b hbefore b hmem rfl
    rw [hwhole, ← List.foldl_cons]
    exact (s.foldl_computeBus_ne xs (c :: after) _ hno).1.symm
  obtain ⟨hout, hclip⟩ := s.foldl_computeBus_ne xs after (s.computeBus xs (before.foldl (s.computeBus xs) noSums) c) hafter
  rw [← hwhole] at hout hclip
  rw [hout, hclip, ← hsum]
  exact ⟨Vector.getElem_set_self _, Vector.getElem_set_self _⟩

/-- The 256 products of a column, those of the channels and those of the buses (R80, R103). -/
theorem State.accumulate_eq (ys : Vector Int 64) (c : Fin 64) :
    s.accumulate xs ys c =
      ((List.finRange 192).map fun i => xs[i] * (multiplier [(s.matrix.cell ⟨i.val, by omega⟩ c).cur, s.chans[i].trim.cur,
        s.groupCode i, s.chans[i].mute.cur] : Int)).sum +
      ((List.finRange 64).map fun b => ys[b] * (multiplier [(s.matrix.cell (busRow b) c).cur] : Int)).sum := by
  have hchan : ∀ i : Fin 192, rowSample xs ys (Fin.castAdd 64 i) * (multiplier (s.xpCodes (Fin.castAdd 64 i) c) : Int) =
      xs[i] * (multiplier [(s.matrix.cell ⟨i.val, by omega⟩ c).cur, s.chans[i].trim.cur, s.groupCode i,
        s.chans[i].mute.cur] : Int) := fun i => by
    have hlt : (Fin.castAdd 64 i).val < 192 := i.isLt
    rw [rowSample, dif_pos hlt, State.xpCodes, dif_pos hlt]
    rfl
  have hbus : ∀ b : Fin 64, rowSample xs ys (Fin.natAdd 192 b) * (multiplier (s.xpCodes (Fin.natAdd 192 b) c) : Int) =
      ys[b] * (multiplier [(s.matrix.cell (busRow b) c).cur] : Int) := fun b => by
    have hge : ¬(Fin.natAdd 192 b).val < 192 := Nat.not_lt.2 (Nat.le_add_right _ _)
    have hval : (Fin.natAdd 192 b).val - 192 = b.val := Nat.add_sub_cancel_left _ _
    rw [rowSample, dif_neg hge, State.xpCodes, dif_neg hge]
    simp only [hval]
    rfl
  rw [State.accumulate, ← Fin.sum_univ_def, ← Fin.sum_univ_def, ← Fin.sum_univ_def]
  refine (Fin.sum_univ_add (a := 192) (b := 64) _).trans ?_
  exact congrArg₂ _ (Finset.sum_congr rfl fun i _ => hchan i) (Finset.sum_congr rfl fun b _ => hbus b)

end

end Sys2Proof.Machine
end

section
namespace Sys2Proof.Machine

/-! ### The items of an unsteered class (R174 to R179) -/

section
variable {r : Report} {c : Fin 8} (h : r.notices[c].steer = .none)
include h

theorem Report.compose_items : r.compose.items[c] = r.items[c] := by
  simp only [Report.compose, Fin.getElem_fin, Vector.getElem_ofFn] at h ⊢
  exact if_pos h

theorem Report.composeIfDue_items : r.composeIfDue.items[c] = r.items[c] := by
  unfold Report.composeIfDue
  split
  · exact Report.compose_items h
  · rfl

theorem Report.becomeDue_items : r.becomeDue.items[c] = r.items[c] := by
  unfold Report.becomeDue
  dsimp only
  split
  · rfl
  · exact Report.compose_items (r := { r with timer := none, due := true }) h

theorem Report.lowerTimer_items : r.lowerTimer.items[c] = r.items[c] := by
  unfold Report.lowerTimer
  split
  · rfl
  · split
    · exact Report.becomeDue_items h
    · rfl

theorem Report.addUnreported_items : r.addUnreported.items[c] = r.items[c] := by
  unfold Report.addUnreported
  dsimp only
  split
  · exact Report.becomeDue_items (r := { r with unreported := _, timer := _ }) h
  · rfl

/-- A set of an item reaches its own class alone. -/
theorem Report.setItem_items_of_ne {i : Item} (hi : itemClass i ≠ c) : (r.setItem i).items[c] = r.items[c] := by
  have hv : (itemClass i).val ≠ c.val := fun e => hi (Fin.ext e)
  have hset : (r.items.set (itemClass i) (r.items[itemClass i] ||| itemBit i))[c] = r.items[c] :=
    Vector.getElem_set_ne (itemClass i).isLt c.isLt hv
  unfold Report.setItem
  split
  · rfl
  · dsimp only
    split
    · exact hset
    · have hq : ∀ v, ({ r with items := v } : Report).addUnreported.items[c] = v[c] := fun v =>
        Report.addUnreported_items (r := { r with items := v }) h
      exact (hq _).trans hset

theorem Report.addCount_items_of_ne (hc : c ≠ 6) (n : Fin 84) : (r.addCount n).items[c] = r.items[c] := by
  unfold Report.addCount
  split
  · rfl
  · dsimp only
    split
    · have hne : itemClass (.counter n) ≠ c := fun e => hc e.symm
      have hq : ∀ v, (({ r with counters := v } : Report).setItem (.counter n)).items[c] = r.items[c] := fun v =>
        Report.setItem_items_of_ne (r := { r with counters := v }) h hne
      exact hq _
    · rfl

end

/-- R174: a set item of an unsteered class, and no other of the class, is set. -/
theorem Report.setItem_clip_items {r : Report} (h : r.notices[(1 : Fin 8)].steer = .none) (b c : Fin 64) :
    (r.setItem (.clip b)).items[(1 : Fin 8)].getLsbD c.val = true ↔
      r.items[(1 : Fin 8)].getLsbD c.val = true ∨ c = b := by
  have hbit : (itemBit (.clip b)).getLsbD c.val = true ↔ c = b := by
    simp [itemBit, itemIndex, Fin.ext_iff]
    omega
  unfold Report.setItem
  split
  · next hset =>
    refine (or_iff_left_of_imp fun e => ?_).symm
    rw [e]
    exact hset
  · have hset : ∀ q, (if r.notices[itemClass (.clip b)].steer = .none then
        ({ r with items := r.items.set 1 (r.items[(1 : Fin 8)] ||| itemBit (.clip b)) } : Report) else q).items[(1 : Fin 8)] =
          r.items[(1 : Fin 8)] ||| itemBit (.clip b) := fun q => by
      rw [if_pos (show r.notices[itemClass (.clip b)].steer = .none from h)]
      exact Vector.getElem_set_self _
    refine (Bool.eq_iff_iff.1 (congrArg (BitVec.getLsbD · c.val) (hset _))).trans ?_
    rw [BitVec.getLsbD_or, Bool.or_eq_true, hbit]

/-! ### What spares the clips -/

/-- The steering, the clip counts and, unsteered, the clip items are as they were (R112, R175). -/
def Report.SparesClips (r q : Report) : Prop :=
  q.notices = r.notices ∧ (∀ n : Fin 84, 20 ≤ n.val → q.counters[n] = r.counters[n]) ∧
    (r.notices[(1 : Fin 8)].steer = .none → q.items[(1 : Fin 8)] = r.items[(1 : Fin 8)])

theorem Report.SparesClips.refl (r : Report) : r.SparesClips r := ⟨rfl, fun _ _ => rfl, fun _ => rfl⟩

theorem Report.SparesClips.trans {r q p : Report} (h : r.SparesClips q) (k : q.SparesClips p) : r.SparesClips p := by
  obtain ⟨hn, hc, hi⟩ := h
  obtain ⟨kn, kc, ki⟩ := k
  exact ⟨kn.trans hn, fun n h20 => (kc n h20).trans (hc n h20), fun hu => (ki (by rw [hn]; exact hu)).trans (hi hu)⟩

theorem Report.SparesClips.ite {c : Prop} {_ : Decidable c} {r q p : Report} (hq : r.SparesClips q) (hp : r.SparesClips p) :
    r.SparesClips (if c then q else p) := by
  split
  · exact hq
  · exact hp

theorem Report.SparesClips.setItem (r : Report) {i : Item} (hi : itemClass i ≠ 1) : r.SparesClips (r.setItem i) :=
  ⟨r.setItem_notices i, fun n _ => by rw [Report.setItem_counters], fun h => Report.setItem_items_of_ne h hi⟩

theorem Report.addCount_counters_ne (r : Report) {n m : Fin 84} (h : m ≠ n) : (r.addCount n).counters[m] = r.counters[m] := by
  have hv : n.val ≠ m.val := fun e => h (Fin.ext e.symm)
  rw [Report.addCount_counters]
  split
  · rfl
  · exact Vector.getElem_set_ne n.isLt m.isLt hv

theorem Report.SparesClips.addCount (r : Report) {n : Fin 84} (hn : n.val < 20) : r.SparesClips (r.addCount n) :=
  ⟨r.addCount_notices n, fun m hm => r.addCount_counters_ne fun e => absurd (e ▸ hm) (Nat.not_le.2 hn),
    fun h => Report.addCount_items_of_ne h (by decide) n⟩

theorem Report.SparesClips.noted (r : Report) {n : Fin 84} (hn : n.val < 20) {i : Item} (hi : itemClass i ≠ 1) :
    r.SparesClips ((r.addCount n).setItem i) := (Report.SparesClips.addCount r hn).trans (.setItem _ hi)

theorem Report.SparesClips.addCounts (r : Report) {n : Fin 84} (hn : n.val < 20) (k : Nat) : r.SparesClips (r.addCounts n k) := by
  induction k with
  | zero => exact .refl r
  | succ k ih => exact ih.trans (.addCount _ hn)

/-! ### An engine frame spares the clips before its sums and after them -/

/-- The step from s to t spares the clips. -/
def State.SparesClips (s t : State) : Prop := s.report.SparesClips t.report

theorem State.SparesClips.refl (s : State) : s.SparesClips s := Report.SparesClips.refl s.report

theorem State.SparesClips.trans {s t u : State} (h : s.SparesClips t) (k : t.SparesClips u) : s.SparesClips u :=
  Report.SparesClips.trans h k

theorem State.SparesClips.ite {s t u : State} (c : Prop) {_ : Decidable c} (ht : s.SparesClips t) (hu : s.SparesClips u) :
    s.SparesClips (if c then t else u) := by
  split
  · exact ht
  · exact hu

theorem State.SparesClips.foldl {α : Type} {f : State → α → State} (hf : ∀ (s : State) (a : α), s.SparesClips (f s a))
    (l : List α) (s : State) : s.SparesClips (l.foldl f s) :=
  State.foldl_touches State.SparesClips.refl (fun _ _ _ => State.SparesClips.trans) hf l s

theorem State.SparesClips.writeXp (s : State) (r : Fin 256) (c : Fin 64) (t : Int) (n : Fin 8) :
    s.SparesClips (s.writeXp r c t n) := by
  have hcount : s.report.SparesClips (s.report.addCount rampsDelayedCount) := .addCount _ (by decide)
  have hjoin : s.report.SparesClips (s.report.afterJoin s.matrix.waiting.isEmpty) :=
    Report.SparesClips.ite (hcount.trans (.setItem _ (by decide))) hcount
  exact Report.SparesClips.ite hjoin (.refl _)

theorem itemClass_punch_ne (i : Fin 128) : itemClass (.punch i) ≠ 1 := show (4 : Fin 8) ≠ 1 by decide

theorem State.SparesClips.applyMove (s : State) (m : Move) : s.SparesClips (s.applyMove m) := by
  have hrefuse : s.SparesClips s.refuseEvent := Report.SparesClips.noted _ (by decide) (by decide)
  have hpunch : ∀ i into, s.SparesClips (s.punchRequest i into) := fun i into =>
    Report.SparesClips.ite (.setItem _ (itemClass_punch_ne i)) (.refl _)
  cases m with
  | xpTarget r c code n => exact .ite _ (.writeXp s r c code n) hrefuse
  | punchIn i => exact .ite _ (hpunch i true) hrefuse
  | punchOut i => exact .ite _ (hpunch i false) hrefuse
  | _ => exact .refl s

theorem State.SparesClips.judgeLow (s : State) (before : Nat) : s.SparesClips (s.judgeLow before) :=
  Report.SparesClips.ite (.setItem _ (by decide)) (.refl _)

theorem State.SparesClips.applyDue (n : Nat) (s : State) : s.SparesClips (State.applyDue n s) := by
  induction n generalizing s with
  | zero => exact .refl s
  | succ n ih =>
    unfold State.applyDue
    split
    · exact .refl s
    · next e rest _ =>
      have hmove : s.SparesClips ({ s with queue := rest }.applyMove e.move) := applyMove { s with queue := rest } e.move
      have hdeferred : ∀ t : State, t.SparesClips (t.countDeferred e.due) := fun t =>
        .ite _ (Report.SparesClips.noted _ (by decide) (by decide)) (.refl t)
      exact .ite _ (.refl s) (.ite _ (.refl s) ((hmove.trans (hdeferred _)).trans (ih _)))

theorem State.SparesClips.automate (s : State) : s.SparesClips s.automate :=
  .ite _ ((State.SparesClips.applyDue appliedPerFrame s).trans (.judgeLow _ _)) (.refl s)

theorem State.SparesClips.jump (s : State) : s.SparesClips s.jump := by
  have hflush : s.SparesClips s.flush := Report.SparesClips.addCounts s.report (by decide) s.queue.length
  have hitem : s.flush.SparesClips (s.flush.setItem .jump) := Report.SparesClips.setItem _ (by decide)
  exact (hflush.trans hitem).trans (.judgeLow _ _)

theorem State.SparesClips.track (s : State) (src : FrameSource) : s.SparesClips (s.track src) := by
  cases src with
  | passing x p r => exact .ite _ (.refl s) (jump { s with tracker := ⟨p, r⟩ })
  | failed => exact .refl s
  | oscillator => exact .refl s

theorem State.SparesClips.advancePunches (s : State) : s.SparesClips s.advancePunches := by
  have hslot : ∀ (s : State) (i : Fin 128), s.SparesClips (s.advanceSlot i) := fun s i =>
    Report.SparesClips.ite (.setItem _ (itemClass_punch_ne i)) (.refl _)
  exact .foldl hslot _ s

theorem Report.SparesClips.countDry (s : State) (l : Link) (r : Report) : r.SparesClips (s.countDry l r) := by
  have hslip : r.SparesClips (r.addSlip l) := by
    cases l with
    | a => exact .refl r
    | b => exact .addCount r (by decide)
    | c => exact .addCount r (by decide)
    | d => exact .addCount r (by decide)
  exact .ite (hslip.trans (.addCount _ (by cases l <;> decide))) (.refl r)

theorem State.SparesClips.frameStart (s : State) : s.SparesClips s.frameStart := by
  have hbegin : s.report.SparesClips s.afterWords.composeIfDue.lowerTimer := by
    obtain ⟨hdue, hcounts⟩ := Report.composeIfDue_same s.afterWords
    obtain ⟨htimer, hcounts'⟩ := Report.lowerTimer_same s.afterWords.composeIfDue
    refine ⟨htimer.1.trans hdue.1, fun n _ => by rw [hcounts', hcounts]; rfl, fun hu => ?_⟩
    have hu' : s.afterWords.composeIfDue.notices[(1 : Fin 8)].steer = .none := by
      rw [hdue.1]
      exact hu
    exact (Report.lowerTimer_items hu').trans (Report.composeIfDue_items (r := s.afterWords) hu)
  unfold State.SparesClips
  rw [State.frameStart_report]
  exact ((hbegin.trans (.countDry s .b _)).trans (.countDry s .c _)).trans (.countDry s .d _)

theorem State.SparesClips.frameMoves (s : State) (src : FrameSource) : s.SparesClips (s.frameMoves src) := by
  have hevents : s.SparesClips (s.frameEvents src) := ((State.SparesClips.frameStart s).trans (.track _ src)).trans (.automate _)
  exact hevents.trans (advancePunches (s.frameEvents src).advanceRamps)

theorem State.SparesClips.sweepVisits (s : State) : s.SparesClips s.sweepVisits := by
  unfold State.sweepVisits
  split
  · exact .refl s
  · next n left _ =>
    have hvisit : s.SparesClips (s.visit n (16384 - left)) := .foldl (fun s j => by
      split
      · exact .writeXp s _ _ _ _
      · exact .refl s) _ s
    dsimp only
    revert hvisit
    generalize s.visit n (16384 - left) = t
    intro hvisit
    split
    · exact hvisit.trans (Report.SparesClips.setItem t.report (by decide))
    · exact hvisit

end Sys2Proof.Machine
end

section
namespace Sys2Proof.Machine

/-! ### Clips (R111, R112) -/

section
variable (v : Vector Bool 64) (was : Vector Bus 64)

/-- The bus clips, and did not clip in the frame before (R112). -/
abbrev clipOnset (c : Fin 64) : Prop := v[c] = true ∧ was[c].clipping = false

/-- What bus c's clip state says to the report (R112). -/
def Report.noteOnset (r : Report) (c : Fin 64) : Report :=
  if clipOnset v was c then (r.setItem (.clip c)).addCount (clipCountOf c) else r

theorem State.noteClip_clipping (s : State) (b c : Fin 64) :
    (State.noteClip v s b).buses[c].clipping = if b = c then v[c] else s.buses[c].clipping := by
  by_cases h : b = c
  · subst h
    simp [State.noteClip]
  · have hv : b.val ≠ c.val := fun e => h (Fin.ext e)
    simp [State.noteClip, h, hv]

/-- R111: the clip state of a bus noted is whether it clipped. -/
theorem State.foldl_noteClip_clipping (l : List (Fin 64)) (s : State) (c : Fin 64) :
    (l.foldl (State.noteClip v) s).buses[c].clipping = if c ∈ l then v[c] else s.buses[c].clipping := by
  induction l generalizing s with
  | nil => rfl
  | cons b l ih =>
    rw [List.foldl_cons, ih, State.noteClip_clipping]
    by_cases hl : c ∈ l
    · rw [if_pos hl, if_pos (List.mem_cons_of_mem b hl)]
    · by_cases h : b = c
      · rw [if_neg hl, if_pos h, if_pos (h ▸ List.mem_cons_self)]
      · rw [if_neg hl, if_neg h, if_neg fun hmem => (List.mem_cons.1 hmem).elim (fun e => h e.symm) hl]

/-- Each bus is noted once, against its clip state before the frame. -/
theorem State.foldl_noteClip_report (l : List (Fin 64)) (hl : l.Nodup) (s : State)
    (hs : ∀ c ∈ l, s.buses[c].clipping = was[c].clipping) :
    (l.foldl (State.noteClip v) s).report = l.foldl (Report.noteOnset v was) s.report := by
  induction l generalizing s with
  | nil => rfl
  | cons b l ih =>
    obtain ⟨hb, hl⟩ := List.nodup_cons.1 hl
    obtain ⟨hsb, hsl⟩ := List.forall_mem_cons.1 hs
    have hreport : (State.noteClip v s b).report = s.report.noteOnset v was b := by
      unfold State.noteClip Report.noteOnset clipOnset
      rw [← hsb]
      dsimp only
      refine if_congr ?_ rfl rfl
      rw [Bool.and_eq_true, Bool.not_eq_true']
    rw [List.foldl_cons, List.foldl_cons, ih hl, hreport]
    intro c hc
    have hne : b ≠ c := fun e => hb (e ▸ hc)
    rw [State.noteClip_clipping, if_neg hne]
    exact hsl c hc

theorem clipCountOf_inj {b c : Fin 64} : clipCountOf c = clipCountOf b ↔ c = b := by
  simp [clipCountOf, Fin.ext_iff]

theorem Report.noteOnset_notices (r : Report) (c : Fin 64) : (r.noteOnset v was c).notices = r.notices := by
  unfold Report.noteOnset
  split
  · rw [Report.addCount_notices, Report.setItem_notices]
  · rfl

theorem Report.noteOnset_count (r : Report) (b c : Fin 64) (h : r.counters[clipCountOf c] ≤ 65535) :
    (r.noteOnset v was b).counters[clipCountOf c] =
      min 65535 (r.counters[clipCountOf c] + if c = b ∧ clipOnset v was c then 1 else 0) := by
  unfold Report.noteOnset
  by_cases hon : clipOnset v was b
  · rw [if_pos hon, Report.addCount_get _ _ _ (by rw [Report.setItem_counters]; exact h), Report.setItem_counters]
    have : clipCountOf c = clipCountOf b ↔ c = b ∧ clipOnset v was c :=
      clipCountOf_inj.trans ⟨fun e => ⟨e, e ▸ hon⟩, And.left⟩
    simp only [this]
  · have hno : ¬(c = b ∧ clipOnset v was c) := fun hc => hon (hc.1 ▸ hc.2)
    rw [if_neg hon, if_neg hno]
    omega

theorem Report.noteOnset_items {r : Report} (h : r.notices[(1 : Fin 8)].steer = .none) (b c : Fin 64) :
    (r.noteOnset v was b).items[(1 : Fin 8)].getLsbD c.val = true ↔
      r.items[(1 : Fin 8)].getLsbD c.val = true ∨ c = b ∧ clipOnset v was c := by
  unfold Report.noteOnset
  by_cases hon : clipOnset v was b
  · have hset : (r.setItem (.clip b)).notices[(1 : Fin 8)].steer = .none := by
      rw [Report.setItem_notices]
      exact h
    rw [if_pos hon, Report.addCount_items_of_ne hset (by decide), Report.setItem_clip_items h]
    exact or_congr_right ⟨fun e => ⟨e, e ▸ hon⟩, And.left⟩
  · have hno : ¬(c = b ∧ clipOnset v was c) := fun hc => hon (hc.1 ▸ hc.2)
    rw [if_neg hon]
    exact (or_iff_left hno).symm

/-- R112, R183: a clip count goes up by one at an onset of its bus. -/
theorem Report.foldl_noteOnset_count (l : List (Fin 64)) (hl : l.Nodup) (r : Report) (c : Fin 64)
    (h : r.counters[clipCountOf c] ≤ 65535) :
    (l.foldl (Report.noteOnset v was) r).counters[clipCountOf c] =
      min 65535 (r.counters[clipCountOf c] + if c ∈ l ∧ clipOnset v was c then 1 else 0) := by
  induction l generalizing r with
  | nil =>
    have hno : ¬(c ∈ [] ∧ clipOnset v was c) := fun hc => List.not_mem_nil hc.1
    rw [if_neg hno]
    exact (Nat.min_eq_right h).symm
  | cons b l ih =>
    obtain ⟨hb, hl⟩ := List.nodup_cons.1 hl
    have hone := r.noteOnset_count v was b c h
    rw [List.foldl_cons, ih hl _ (by omega), hone]
    by_cases hc : c = b
    · subst hc
      simp only [hb, false_and, if_false, true_and, List.mem_cons_self]
      omega
    · simp only [hc, false_and, if_false, List.mem_cons, false_or]
      omega

theorem Report.foldl_noteOnset_items (l : List (Fin 64)) (r : Report) (h : r.notices[(1 : Fin 8)].steer = .none) (c : Fin 64) :
    (l.foldl (Report.noteOnset v was) r).items[(1 : Fin 8)].getLsbD c.val = true ↔
      r.items[(1 : Fin 8)].getLsbD c.val = true ∨ c ∈ l ∧ clipOnset v was c := by
  induction l generalizing r with
  | nil => exact (or_iff_left fun hc => List.not_mem_nil hc.1).symm
  | cons b l ih =>
    rw [List.foldl_cons, ih _ (by rw [Report.noteOnset_notices]; exact h), Report.noteOnset_items v was h, or_assoc,
      List.mem_cons, or_and_right]

theorem Report.foldl_noteOnset_notices (l : List (Fin 64)) (r : Report) :
    (l.foldl (Report.noteOnset v was) r).notices = r.notices := by
  induction l generalizing r with
  | nil => rfl
  | cons b l ih => rw [List.foldl_cons, ih, Report.noteOnset_notices]

end

/-! ### The clips of an engine frame -/

/-- The clip state of every bus is as it was (R111). -/
def State.SameClipping (s t : State) : Prop := ∀ c : Fin 64, t.buses[c].clipping = s.buses[c].clipping

theorem State.SameClipping.of_buses {s t : State} (h : t.buses = s.buses) : s.SameClipping t := fun c => by rw [h]

theorem State.SameClipping.setBus (s : State) (i : Fin 64) {b : Bus} (hb : b.clipping = s.buses[i].clipping) :
    s.SameClipping (s.setBus i b) := fun c => by
  by_cases h : i.val = c.val
  · obtain rfl := Fin.ext h
    simpa [State.setBus] using hb
  · simp [State.setBus, h]

theorem State.SameClipping.applyMove (s : State) (m : Move) : s.SameClipping (s.applyMove m) := by
  have same : s.SameClipping s := .of_buses rfl
  cases m with
  | busLevel i code n => exact .setBus s i rfl
  | busMute i on => exact .setBus s i (by rw [Bus.setMute_eq])
  | xpTarget r k code n =>
    unfold State.applyMove
    dsimp only
    split <;> exact same
  | punchIn i =>
    unfold State.applyMove
    dsimp only
    split <;> exact same
  | punchOut i =>
    unfold State.applyMove
    dsimp only
    split <;> exact same
  | _ => exact same

theorem State.SameClipping.applyDue (n : Nat) (s : State) : s.SameClipping (State.applyDue n s) := by
  induction n generalizing s with
  | zero => exact .of_buses rfl
  | succ n ih =>
    unfold State.applyDue
    split
    · exact .of_buses rfl
    · next e rest _ =>
      split
      · exact .of_buses rfl
      · split
        · exact .of_buses rfl
        · obtain ⟨_, h⟩ := State.countDeferred_touches ({ s with queue := rest }.applyMove e.move) e.due
          intro c
          rw [ih, h]
          exact applyMove { s with queue := rest } e.move c

/-- The clip states at a frame's sums are those of the frame before. -/
theorem State.SameClipping.frameMoves (s : State) (src : FrameSource) : s.SameClipping (s.frameMoves src) := fun c => by
  obtain ⟨_, _, _, _, h1⟩ := State.frameStart_touches s
  obtain ⟨_, _, _, h2⟩ := State.track_touches s.frameStart src
  have htrack : (s.frameStart.track src).buses[c].clipping = s.buses[c].clipping := by rw [h2, h1]
  have hautomate : (s.frameStart.track src).SameClipping (s.frameEvents src) := by
    unfold State.frameEvents State.automate
    split
    · exact applyDue appliedPerFrame _
    · exact .of_buses rfl
  rw [(State.frameMoves_ramps s src).2.2 c]
  exact (hautomate c).trans htrack

theorem State.frame_report (s : State) (src : FrameSource) :
    ((s.frameMoves src).computeFrame src).report =
      (s.frameMoves src).busOrder.foldl
        (Report.noteOnset ((s.frameMoves src).computeBuses ((s.frameMoves src).channelSamples src)).clipped s.buses)
        (s.frameMoves src).report := by
  rw [State.computeFrame_eq, State.holdResults_report]
  exact State.foldl_noteClip_report _ s.buses _ (State.busOrder_nodup _) _ fun c _ =>
    State.SameClipping.frameMoves s src c

theorem State.frame_clipping (m : State) (src : FrameSource) (c : Fin 64) :
    ((m.computeFrame src).sweepVisits).buses[c].clipping = (m.computeBuses (m.channelSamples src)).clipped[c] := by
  obtain ⟨_, _, _, h⟩ := State.sweepVisits_touches (m.computeFrame src)
  rw [h, State.computeFrame_eq]
  exact (State.foldl_noteClip_clipping _ _ m c).trans (if_pos (m.mem_busOrder c))

/-- Settles O49: the column equations by the order of the tiers; the clips by `Report.noteOnset`, bus after bus, which the rest
of the frame spares. -/
theorem everyBusIsTheSumOfItsColumn : Obligations.EveryBusIsTheSumOfItsColumn := by
  refine ⟨fun s xs hlaw => ?_, fun s src => ?_⟩
  · intro y group channelTerm busTerm c acc result
    have hacc : s.accumulate xs y c = acc := s.accumulate_eq xs y c
    have hget := s.computeBuses_get xs hlaw c
    rw [hacc] at hget
    exact hget
  · intro t m xs sums
    obtain ⟨_, hnew, _⟩ := State.computed_parts m src
    have ht : t = (m.computeFrame src).sweepVisits := rfl
    have hm : m = s.frameMoves src := rfl
    have hlawful : MatrixOk s.matrix → TierLaw s → TierLaw m := fun hok hlaw => (Lawful.frameMoves ⟨hok, hlaw⟩ src).2
    have hreport : (m.computeFrame src).report = m.busOrder.foldl (Report.noteOnset sums.clipped s.buses) m.report :=
      s.frame_report src
    have hclipping : ∀ c : Fin 64, t.buses[c].clipping = sums.clipped[c] := m.frame_clipping src
    have hx : t.heldNew.x = m.outputs (Vector.ofFn (m.rawSample src)) xs sums.out 0 (by omega) := by
      rw [ht, hnew]
      rfl
    have hy : t.heldNew.y = m.outputs (Vector.ofFn (m.rawSample src)) xs sums.out 64 (by omega) := by
      rw [ht, hnew]
      rfl
    obtain ⟨_, hcounts, hitems⟩ := State.SparesClips.sweepVisits (m.computeFrame src)
    obtain ⟨knotices, kcounts, kitems⟩ := State.SparesClips.frameMoves s src
    rw [← ht] at hcounts hitems
    rw [← hm] at knotices kcounts kitems
    clear_value t m xs sums
    refine ⟨hlawful, hreport, hx, hy, fun c => ?_⟩
    intro onset count
    have honset : c ∈ m.busOrder ∧ clipOnset sums.clipped s.buses c ↔ onset := and_iff_right (m.mem_busOrder c)
    refine ⟨hclipping c, fun hle => ?_, fun hsteer => ?_⟩
    · have hcount := kcounts count (Nat.le_add_right 20 c.val)
      rw [hcounts count (Nat.le_add_right 20 c.val), hreport,
        Report.foldl_noteOnset_count _ _ _ m.busOrder_nodup _ c (by rw [hcount]; exact hle), hcount]
      simp only [honset]
    · have hm : m.report.notices[(1 : Fin 8)].steer = .none := by
        rw [knotices]
        exact hsteer
      have hcomputed : (m.computeFrame src).report.notices[(1 : Fin 8)].steer = .none := by
        rw [hreport, Report.foldl_noteOnset_notices]
        exact hm
      rw [hitems hcomputed, hreport, Report.foldl_noteOnset_items _ _ _ _ hm, kitems hsteer, honset]

end Sys2Proof.Machine
end

section
namespace Sys2Proof.Machine

/-! ### A matrix command at a ready processor (R158) -/

theorem runMessage_admitted {k : Octet} (hk : 1 ≤ k.toNat ∧ k.toNat ≤ 16) {p : List Octet}
    (hl : lengthAllowed k.toNat p.length = true) (tag : Octet) (s : State) :
    runMessage ⟨k, tag, p⟩ s = doCommand k.toNat p s := by
  rw [runMessage, if_neg (by dsimp only; omega), hl]
  rfl

/-- A row that hands on a message which the processor admits: the state and the payload are those of its command. -/
theorem exec_reply {s t : State} (h : s.ready) {c : Instr} {k tag : Octet} {p q : List Octet}
    (hc : exec c s = .next (s.submit ⟨k, tag, p⟩)) (hk : 1 ≤ k.toNat ∧ k.toNat ≤ 16)
    (hl : lengthAllowed k.toNat p.length = true) (hr : doCommand k.toNat p s = ⟨t, q⟩) :
    exec c s = .next (t.respond (responseKind k) tag q) := by
  rw [hc, s.submit_ready _ h, s.execute_reply t _ q ((runMessage_admitted hk hl tag s).trans hr)]

section
variable {s t : State} (h : s.ready) (tag : Octet) {p q : List Octet}
include h

theorem exec_setWindow_reply (hp : p.length = 7) (hr : doSetWindow p s = ⟨t, q⟩) :
    exec (.setWindow tag p) s = .next (t.respond 0x85#8 tag q) :=
  exec_reply h (k := 5#8) rfl (by decide) (beq_iff_eq.2 hp) hr

theorem exec_writeGains_reply {k : Nat} (hp : p.length = 2 * k + 1) (hk : 1 ≤ k) (hk' : k ≤ 26)
    (hr : doWriteGains p s = ⟨t, q⟩) :
    exec (.writeGains tag p) s = .next (t.respond 0x86#8 tag q) := by
  have hl : lengthAllowed 6 p.length = true := by
    simp only [lengthAllowed, hp, Bool.and_eq_true, beq_iff_eq, decide_eq_true_eq]
    omega
  exact exec_reply h (k := 6#8) rfl (by decide) hl hr

theorem exec_readGains_reply (hp : p.length = 1) (hr : doReadGains p s = ⟨t, q⟩) :
    exec (.readGains tag p) s = .next (t.respond 0x87#8 tag q) :=
  exec_reply h (k := 7#8) rfl (by decide) (beq_iff_eq.2 hp) hr

theorem exec_matrixClear_reply (hp : p.length = 1) (hr : doMatrixClear p s = ⟨t, q⟩) :
    exec (.matrixClear tag p) s = .next (t.respond 0x88#8 tag q) :=
  exec_reply h (k := 8#8) rfl (by decide) (beq_iff_eq.2 hp) hr

end

/-! ### MATRIX_CLEAR (R95) -/

theorem doMatrixClear_busy {s : State} {n : Fin 8} {left : Nat} (h : s.sweep = .inFlight n left) (p : List Octet) :
    doMatrixClear p s = .only s .busy := by
  rw [doMatrixClear, h]
  rfl

theorem doMatrixClear_idle {s : State} (h : s.sweep = .idle) (cls : Octet) :
    doMatrixClear [cls] s =
      match index? 8 cls.toNat with
      | none => .only s .range
      | some n => .only { s with sweep := .inFlight n 16384 } .ok := by
  rw [doMatrixClear, h]
  rfl

/-- Settles O28: `doMatrixClear` by the state of the sweep, and in IDLE by the class octet. -/
theorem matrixClearStartsSweep : Obligations.MatrixClearStartsSweep := by
  intro s tag cls h
  refine ⟨fun n left hs => ?_, fun hs hcls => ?_, fun n hs hcls => ?_⟩
  · exact exec_matrixClear_reply h tag rfl (doMatrixClear_busy hs [cls])
  · refine exec_matrixClear_reply h tag rfl ((doMatrixClear_idle hs cls).trans ?_)
    rw [index?_of_le hcls]
    rfl
  · refine exec_matrixClear_reply h tag rfl ((doMatrixClear_idle hs cls).trans ?_)
    rw [hcls, index?_val]
    rfl

end Sys2Proof.Machine
end

section
namespace Sys2Proof.Machine

/-! ### SET_WINDOW (R86, R87) -/

theorem index?_eq_some {n x : Nat} {i : Fin n} (h : index? n x = some i) : x = i.val := by
  unfold index? at h
  split at h
  · cases h
    rfl
  · exact nomatch h

theorem order?_of_le {n : Nat} (h : n ≤ 1) : order? n = some (if n = 0 then .rows else .columns) := by
  have : n = 0 ∨ n = 1 := by omega
  rcases this with rfl | rfl <;> rfl

theorem order?_of_lt {n : Nat} (h : 1 < n) : order? n = none := by
  rw [order?, if_neg (by omega), if_neg (by omega)]

theorem dir?_of_le {n : Nat} (h : n ≤ 1) : dir? n = some (if n = 0 then .up else .down) := by
  have : n = 0 ∨ n = 1 := by omega
  rcases this with rfl | rfl <;> rfl

theorem dir?_of_lt {n : Nat} (h : 1 < n) : dir? n = none := by
  rw [dir?, if_neg (by omega), if_neg (by omega)]

/-- R86: what the seven octets of a window obey. -/
theorem windowOf?_eq_some {r0 r1 c0 c1 o rd cd : Octet} {w : MatrixWindow}
    (h : windowOf? [r0, r1, c0, c1, o, rd, cd] = some w) :
    r0.toNat ≤ r1.toNat ∧ c0.toNat ≤ c1.toNat ∧ c1.toNat ≤ 63 ∧ o.toNat ≤ 1 ∧ rd.toNat ≤ 1 ∧ cd.toNat ≤ 1 := by
  unfold windowOf? at h
  simp only [Option.bind_eq_bind, Option.bind_eq_some_iff, List.getD_cons_zero, List.getD_cons_succ] at h
  obtain ⟨a0, ha0, a1, ha1, b0, hb0, b1, hb1, o', ho, rd', hrd, cd', hcd, h⟩ := h
  rw [index?_eq_some ha0, index?_eq_some ha1, index?_eq_some hb0, index?_eq_some hb1]
  have small : ∀ {α : Type} {f : Nat → Option α} {n : Nat} {a : α}, (1 < n → f n = none) → f n = some a → n ≤ 1 :=
    fun hf ha => Nat.not_lt.1 fun hn => nomatch (hf hn).symm.trans ha
  split at h
  · next hle =>
    exact ⟨hle.1, hle.2, Nat.le_of_lt_succ b1.isLt, small order?_of_lt ho, small dir?_of_lt hrd, small dir?_of_lt hcd⟩
  · exact nomatch h

theorem windowOf?_refused {r0 r1 c0 c1 o rd cd : Octet}
    (h : r1.toNat < r0.toNat ∨ 63 < c1.toNat ∨ c1.toNat < c0.toNat ∨ 1 < o.toNat ∨ 1 < rd.toNat ∨ 1 < cd.toNat) :
    windowOf? [r0, r1, c0, c1, o, rd, cd] = none :=
  Option.eq_none_iff_forall_ne_some.2 fun w hw => by
    obtain ⟨hr, hc, hc', ho, hrd, hcd⟩ := windowOf?_eq_some hw
    omega

theorem dir_up_iff (n : Nat) : (if n = 0 then Dir.up else Dir.down) = .up ↔ n = 0 := by
  split
  · next h => exact iff_of_true rfl h
  · next h => exact iff_of_false (fun e => nomatch e) h

theorem windowOf?_taken {r0 r1 c0 c1 o rd cd : Octet} {a0 a1 : Fin 256} {b0 b1 : Fin 64}
    (ha0 : r0.toNat = a0.val) (ha1 : r1.toNat = a1.val) (hb0 : c0.toNat = b0.val) (hb1 : c1.toNat = b1.val)
    (ha : a0 ≤ a1) (hb : b0 ≤ b1) (ho : o.toNat ≤ 1) (hrd : rd.toNat ≤ 1) (hcd : cd.toNat ≤ 1) :
    windowOf? [r0, r1, c0, c1, o, rd, cd] = some
      { firstRow := a0, lastRow := a1, firstCol := b0, lastCol := b1
        order := if o.toNat = 0 then .rows else .columns
        rowDir := if rd.toNat = 0 then .up else .down
        colDir := if cd.toNat = 0 then .up else .down
        row := if rd.toNat = 0 then a0 else a1
        col := if cd.toNat = 0 then b0 else b1 } := by
  simp only [windowOf?, List.getD_cons_zero, List.getD_cons_succ, ha0, ha1, hb0, hb1, index?_val, order?_of_le ho,
    dir?_of_le hrd, dir?_of_le hcd, Option.bind_eq_bind, Option.bind_some, ha, hb, and_self, if_true, dir_up_iff]

/-- Settles O23: `windowOf?` has the window exactly when each field is in its range and the bounds are in order. -/
theorem setWindowPlacesCounter : Obligations.SetWindowPlacesCounter := by
  intro s tag r0 r1 c0 c1 o rd cd h command
  refine ⟨fun hbad => ?_, fun a0 a1 b0 b1 ha0 ha1 hb0 hb1 ha hb ho hrd hcd => ?_⟩
  · refine exec_setWindow_reply h tag rfl ?_
    rw [doSetWindow, windowOf?_refused hbad]
    rfl
  · refine exec_setWindow_reply h tag rfl ?_
    rw [doSetWindow, windowOf?_taken ha0 ha1 hb0 hb1 ha hb ho hrd hcd]
    rfl

end Sys2Proof.Machine
end

section
namespace Sys2Proof.Machine

/-! ### The walk of the window counter (R87, R88) -/

/-- The index k steps from the start of first..last, in a direction (R88). -/
def Dir.along (d : Dir) (first last k : Nat) : Nat := if d = .up then first + k else last - k

section
variable {n : Nat} (d : Dir) {x first last : Fin (n + 1)} {k : Nat} (hle : first ≤ last)

theorem Dir.along_start : (if d = .up then first else last).val = d.along first last 0 := by
  cases d <;> rfl

include hle

/-- The walk along one side of the window is at its end after as many steps as the side has indexes but one. -/
theorem Dir.along_end (hx : x.val = d.along first last k) (hk : k ≤ last.val - first.val) :
    x = (if d = .up then last else first) ↔ k = last.val - first.val := by
  have hle' := Fin.le_def.1 hle
  cases d <;> simp only [Dir.along, reduceCtorEq, if_true, if_false] at hx ⊢ <;> rw [Fin.ext_iff] <;> omega

theorem stepIn_along (hx : x.val = d.along first last k) (hk : k < last.val - first.val) :
    (stepIn n d x).val = d.along first last (k + 1) := by
  have hle' := Fin.le_def.1 hle
  cases d with
  | up =>
    have hval : x.val = first.val + k := hx
    have hstep : (stepIn n .up x).val = x.val + 1 := Fin.val_add_one_of_lt' (by omega)
    rw [hstep, hval]
    rfl
  | down =>
    have hval : x.val = last.val - k := hx
    have hpos : x ≠ 0 := fun e => by
      rw [e, Fin.val_zero] at hval
      omega
    have hstep : (stepIn n .down x).val = x.val - 1 := Fin.val_sub_one_of_ne_zero hpos
    rw [hstep, hval]
    exact Nat.sub_sub _ _ _

end

/-- `v` is window `w` with its counter a rows and b columns on from the start corner. -/
def MatrixWindow.At (w v : MatrixWindow) (a b : Nat) : Prop :=
  v.row.val = w.rowDir.along w.firstRow w.lastRow a ∧ v.col.val = w.colDir.along w.firstCol w.lastCol b ∧
    v = { w with row := v.row, col := v.col }

/-- The rows and columns of a window but one. -/
def MatrixWindow.rowSteps (w : MatrixWindow) : Nat := w.lastRow.val - w.firstRow.val

def MatrixWindow.colSteps (w : MatrixWindow) : Nat := w.lastCol.val - w.firstCol.val

theorem MatrixWindow.next_of_rows {v : MatrixWindow} (ho : v.order = .rows) :
    v.next =
      if v.col ≠ v.endCol then { v with col := stepIn 63 v.colDir v.col }
      else if v.row ≠ v.endRow then { v with col := v.startCol, row := stepIn 255 v.rowDir v.row }
      else { v with col := v.startCol, row := v.startRow } := by
  unfold MatrixWindow.next
  split
  · rfl
  · next h => exact nomatch ho.symm.trans h

theorem MatrixWindow.next_of_columns {v : MatrixWindow} (ho : v.order = .columns) :
    v.next =
      if v.row ≠ v.endRow then { v with row := stepIn 255 v.rowDir v.row }
      else if v.col ≠ v.endCol then { v with row := v.startRow, col := stepIn 63 v.colDir v.col }
      else { v with row := v.startRow, col := v.startCol } := by
  unfold MatrixWindow.next
  split
  · next h => exact nomatch ho.symm.trans h
  · rfl

section
variable {w v : MatrixWindow} (hr : w.firstRow ≤ w.lastRow) (hc : w.firstCol ≤ w.lastCol) {a b : Nat} (h : w.At v a b)
  (ha : a ≤ w.rowSteps) (hb : b ≤ w.colSteps)
include hr hc h ha hb

theorem MatrixWindow.At.ends : (v.row = v.endRow ↔ a = w.rowSteps) ∧ (v.col = v.endCol ↔ b = w.colSteps) := by
  obtain ⟨hrow, hcol, hv⟩ := h
  rw [hv]
  exact ⟨Dir.along_end w.rowDir hr hrow ha, Dir.along_end w.colDir hc hcol hb⟩

/-- R88: in ROWS the column advances first. -/
theorem MatrixWindow.At.next_rows (ho : w.order = .rows) :
    w.At v.next (if b < w.colSteps then a else if a < w.rowSteps then a + 1 else 0) (if b < w.colSteps then b + 1 else 0) := by
  obtain ⟨hendRow, hendCol⟩ := MatrixWindow.At.ends hr hc h ha hb
  obtain ⟨hrow, hcol, hv⟩ := h
  rw [MatrixWindow.next_of_rows (by rw [hv]; exact ho)]
  by_cases hb' : b < w.colSteps
  · rw [if_pos (mt hendCol.1 hb'.ne), if_pos hb', if_pos hb', hv]
    exact ⟨hrow, stepIn_along w.colDir hc hcol hb', rfl⟩
  · rw [if_neg (not_not_intro (hendCol.2 (by omega))), if_neg hb', if_neg hb']
    by_cases ha' : a < w.rowSteps
    · rw [if_pos (mt hendRow.1 ha'.ne), if_pos ha', hv]
      exact ⟨stepIn_along w.rowDir hr hrow ha', Dir.along_start w.colDir, rfl⟩
    · rw [if_neg (not_not_intro (hendRow.2 (by omega))), if_neg ha', hv]
      exact ⟨Dir.along_start w.rowDir, Dir.along_start w.colDir, rfl⟩

/-- R88: in COLUMNS the row advances first. -/
theorem MatrixWindow.At.next_columns (ho : w.order = .columns) :
    w.At v.next (if a < w.rowSteps then a + 1 else 0) (if a < w.rowSteps then b else if b < w.colSteps then b + 1 else 0) := by
  obtain ⟨hendRow, hendCol⟩ := MatrixWindow.At.ends hr hc h ha hb
  obtain ⟨hrow, hcol, hv⟩ := h
  rw [MatrixWindow.next_of_columns (by rw [hv]; exact ho)]
  by_cases ha' : a < w.rowSteps
  · rw [if_pos (mt hendRow.1 ha'.ne), if_pos ha', if_pos ha', hv]
    exact ⟨stepIn_along w.rowDir hr hrow ha', hcol, rfl⟩
  · rw [if_neg (not_not_intro (hendRow.2 (by omega))), if_neg ha', if_neg ha']
    by_cases hb' : b < w.colSteps
    · rw [if_pos (mt hendCol.1 hb'.ne), if_pos hb', hv]
      exact ⟨Dir.along_start w.rowDir, stepIn_along w.colDir hc hcol hb', rfl⟩
    · rw [if_neg (not_not_intro (hendCol.2 (by omega))), if_neg hb', hv]
      exact ⟨Dir.along_start w.rowDir, Dir.along_start w.colDir, rfl⟩

end

/-! ### Cells of a walk, counted (R88) -/

/-- One more cell of a walk through p + 1 lines of q + 1 cells, over and over: on in the line, to the start of the next, or back
to the first cell. -/
theorem cell_succ (p q i : Nat) :
    let size := (p + 1) * (q + 1)
    let line := i % size / (q + 1)
    let place := i % size % (q + 1)
    line ≤ p ∧ place ≤ q ∧
      (i + 1) % size / (q + 1) = (if place < q then line else if line < p then line + 1 else 0) ∧
      (i + 1) % size % (q + 1) = if place < q then place + 1 else 0 := by
  intro size line place
  have hj : i % size < size := Nat.mod_lt _ (Nat.mul_pos p.succ_pos q.succ_pos)
  have hline : line ≤ p := Nat.le_of_lt_succ (Nat.div_lt_of_lt_mul (by rwa [Nat.mul_comm (q + 1)]))
  have hplace : place ≤ q := Nat.le_of_lt_succ (Nat.mod_lt _ q.succ_pos)
  have hsplit : i % size = (q + 1) * line + place := (Nat.div_add_mod _ _).symm
  have hsucc : (i + 1) % size = (i % size + 1) % size := (Nat.mod_add_mod i size 1).symm
  have cell : ∀ l k, l ≤ p → k ≤ q → i % size + 1 = (q + 1) * l + k →
      (i + 1) % size / (q + 1) = l ∧ (i + 1) % size % (q + 1) = k := by
    intro l k hl hk he
    have hlt : (q + 1) * l + k < size := by
      have : size = (q + 1) * p + (q + 1) := by simp only [size]; ring
      have := Nat.mul_le_mul_left (q + 1) hl
      omega
    rw [hsucc, he, Nat.mod_eq_of_lt hlt, Nat.mul_add_div q.succ_pos, Nat.mul_add_mod, Nat.div_eq_of_lt (by omega),
      Nat.mod_eq_of_lt (by omega)]
    exact ⟨rfl, rfl⟩
  refine ⟨hline, hplace, ?_⟩
  split
  · exact cell line (place + 1) hline (by omega) (by omega)
  · split
    · refine cell (line + 1) 0 (by omega) (by omega) ?_
      rw [hsplit, Nat.mul_succ]
      omega
    · have hlast : i % size + 1 = size := by
        have hl : line = p := by omega
        have hp : place = q := by omega
        rw [hsplit, hl, hp]
        simp only [size]
        ring
      rw [hsucc, hlast, Nat.mod_self]
      exact ⟨Nat.zero_div _, Nat.zero_mod _⟩

/-- R88: after i advances the counter stands at cell i of the walk, modulo the cells of the window. -/
theorem MatrixWindow.at_repeat {w : MatrixWindow} (hr : w.firstRow ≤ w.lastRow) (hc : w.firstCol ≤ w.lastCol)
    (h : w.At w 0 0) (i : Nat) :
    let j := i % ((w.rowSteps + 1) * (w.colSteps + 1))
    w.At (Nat.repeat MatrixWindow.next i w)
      (if w.order = .rows then j / (w.colSteps + 1) else j % (w.rowSteps + 1))
      (if w.order = .rows then j % (w.colSteps + 1) else j / (w.rowSteps + 1)) := by
  induction i with
  | zero =>
    simp only [Nat.zero_mod, Nat.zero_div, ite_self]
    exact h
  | succ i ih =>
    cases ho : w.order with
    | rows =>
      obtain ⟨hline, hplace, hline', hplace'⟩ := cell_succ w.rowSteps w.colSteps i
      simp only [ho, if_true] at ih ⊢
      rw [hline', hplace']
      exact MatrixWindow.At.next_rows hr hc ih hline hplace ho
    | columns =>
      obtain ⟨hline, hplace, hline', hplace'⟩ := cell_succ w.colSteps w.rowSteps i
      simp only [ho, reduceCtorEq, if_false, Nat.mul_comm (w.rowSteps + 1)] at ih ⊢
      rw [hline', hplace']
      exact MatrixWindow.At.next_columns hr hc ih hplace hline ho

/-- Settles O24: every advance leads from one cell of the walk to the next. -/
theorem windowWalk : Obligations.WindowWalk := by
  intro w i hr hc hrow hcol
  have hstart : w.At w 0 0 := ⟨by rw [hrow]; exact Dir.along_start _, by rw [hcol]; exact Dir.along_start _, rfl⟩
  exact MatrixWindow.at_repeat hr hc hstart i

end Sys2Proof.Machine
end

section
namespace Sys2Proof.Machine

/-! ### READ_GAINS (R89, R93) -/

/-- The window counter i cells on (R88). -/
abbrev MatrixWindow.on (w : MatrixWindow) (i : Nat) : MatrixWindow := Nat.repeat MatrixWindow.next i w

theorem MatrixWindow.next_on (w : MatrixWindow) (i : Nat) : w.next.on i = w.on (i + 1) := by
  induction i with
  | zero => rfl
  | succ i ih => exact congrArg MatrixWindow.next ih

/-- R93: the pair of the crosspoint that a counter stands at. -/
def State.pairAt (s : State) (w : MatrixWindow) : List Octet :=
  octets16 (BitVec.ofInt 16 (s.matrix.cell w.row w.col).cur) ++ octets16 (BitVec.ofInt 16 (s.matrix.cell w.row w.col).tgt)

/-- R89, R93: the pairs of n cells in walk order, and the counter past them. -/
theorem State.readCells_eq (n : Nat) (s : State) :
    State.readCells n s =
      ({ s with window := s.window.on n }, (List.range n).flatMap fun i => s.pairAt (s.window.on i)) := by
  induction n generalizing s with
  | zero => rfl
  | succ n ih =>
    have hpairs : ((List.range n).flatMap fun i => s.stepWindow.pairAt (s.stepWindow.window.on i)) =
        (List.range n).flatMap fun i => s.pairAt (s.window.on (i + 1)) :=
      congrArg (List.flatMap · (List.range n)) (funext fun i => congrArg s.pairAt (s.window.next_on i))
    rw [State.readCells, ih, hpairs, List.range_succ_eq_map, List.flatMap_cons, List.flatMap_map, ← s.window.next_on n]
    rfl

/-- Settles O27: the reply of `doReadGains`, of which `State.readCells_eq` gives the pairs. -/
theorem readGainsReturnsPairs : Obligations.ReadGainsReturnsPairs := by
  intro s tag n h
  refine ⟨fun hn => exec_readGains_reply h tag rfl ?_, fun h1 h14 => exec_readGains_reply h tag rfl ?_⟩
  · exact if_neg fun ⟨h1, h14⟩ => by
      rw [List.getD_cons_zero] at h1 h14
      omega
  · have hcells := State.readCells_eq n.toNat s
    refine (if_pos ⟨h1, h14⟩).trans ?_
    rw [List.getD_cons_zero, hcells]
    rfl

end Sys2Proof.Machine
end

section
namespace Sys2Proof.Machine

/-! ### WRITE_GAINS, code by code (R91) -/

/-- R82, R91: code `x` is skipped at the crosspoint that counter `w` stands at. -/
abbrev State.skipsAt (s : State) (w : MatrixWindow) (x : Int) : Prop :=
  x ≠ -32768 ∧ clampInt (-960) 96 x ≠ -960 ∧
    ∃ b : Fin 64, w.row.val = 192 + b.val ∧ s.buses[w.col].tier ≤ s.buses[b].tier

theorem State.skipsCell_eq (s : State) (x : Int) : s.skipsCell x = decide (s.skipsAt s.window x) := by
  have hlegal := s.legal_iff s.window.row s.window.col
  rw [Bool.eq_iff_iff, decide_eq_true_eq, State.skipsCell, Bool.and_eq_true, Bool.and_eq_true, bne_iff_ne, bne_iff_ne,
    Bool.not_eq_true', ← Bool.not_eq_true, hlegal, not_not]
  exact ⟨fun ⟨⟨hkeep, hill⟩, hoff⟩ => ⟨hkeep, hoff, hill⟩, fun ⟨hkeep, hoff, hill⟩ => ⟨⟨hkeep, hill⟩, hoff⟩⟩

theorem State.gainCell_leaves {s : State} {x : Int} (h : x = -32768 ∨ s.skipsCell x = true) (n : Fin 8) :
    s.gainCell n x = s.stepWindow :=
  congrArg State.stepWindow (if_pos h)

theorem State.gainCell_writes {s : State} {x : Int} (h : ¬(x = -32768 ∨ s.skipsCell x = true)) (n : Fin 8) :
    s.gainCell n x = (s.writeXp s.window.row s.window.col (clampInt (-960) 96 x) n).stepWindow :=
  congrArg State.stepWindow (if_neg h)

theorem doWriteGains_busy {s : State} {n : Fin 8} {left : Nat} (h : s.sweep = .inFlight n left) (p : List Octet) :
    doWriteGains p s = .counted s .busy 0 := by
  rw [doWriteGains, h]
  rfl

theorem doWriteGains_range {s : State} (h : s.sweep = .idle) {cls : Octet} (hcls : 7 < cls.toNat) (p : List Octet) :
    doWriteGains (cls :: p) s = .counted s .range 0 := by
  rw [doWriteGains, h, List.getD_cons_zero, index?_of_le hcls]
  rfl

theorem doWriteGains_taken {s : State} (h : s.sweep = .idle) {cls : Octet} {n : Fin 8} (hcls : cls.toNat = n.val)
    {p : List Octet} {t : State} {k : Nat} (hcells : State.gainCells n (codesOf p) s = (t, k)) :
    doWriteGains (cls :: p) s = .counted t (if k = 0 then .ok else .tier) k := by
  rw [doWriteGains, h, List.getD_cons_zero, hcls, index?_val]
  simp only [Sweep.busy, Bool.false_eq_true, if_false, List.drop_succ_cons, List.drop_zero, hcells]

/-- Settles O25: `doWriteGains` by the sweep, the class octet, and what `State.gainCell` does with the one code. -/
theorem writeGainsOneCell : Obligations.WriteGainsOneCell := by
  intro s tag cls hi lo h command code illegal
  have reply : ∀ {t : State} {q : List Octet}, doWriteGains [cls, hi, lo] s = ⟨t, q⟩ →
      exec command s = .next (t.respond 0x86#8 tag q) :=
    exec_writeGains_reply h tag (k := 1) rfl (by decide) (by decide)
  refine ⟨fun n left hs => reply (doWriteGains_busy hs _), fun hs hcls => reply (doWriteGains_range hs hcls _),
    fun n hs hcls => ?_⟩
  have one : State.gainCells n (codesOf [hi, lo]) s =
      (s.gainCell n (signed16 hi lo), boolNat (s.skipsCell (signed16 hi lo))) := by
    simp only [codesOf, State.gainCells, Nat.zero_add]
  have hskip : s.skipsCell (signed16 hi lo) = true ↔ (hi ++ lo : BitVec 16).toInt ≠ -32768 ∧ code ≠ -960 ∧ illegal := by
    rw [s.skipsCell_eq, decide_eq_true_eq]
    exact Iff.rfl
  refine ⟨fun hkeep => ?_, fun hkeep hill hoff => ?_, fun hkeep hok => ?_⟩
  · have hno : s.skipsCell (signed16 hi lo) = false := Bool.eq_false_iff.2 fun hsk => (hskip.1 hsk).1 hkeep
    rw [State.gainCell_leaves (x := signed16 hi lo) (.inl hkeep), hno] at one
    exact reply (doWriteGains_taken hs hcls one)
  · have hyes := hskip.2 ⟨hkeep, hoff, hill⟩
    rw [State.gainCell_leaves (.inr hyes), hyes] at one
    exact reply (doWriteGains_taken hs hcls one)
  · have hno : s.skipsCell (signed16 hi lo) = false :=
      Bool.eq_false_iff.2 fun hsk => hok.elim (absurd (hskip.1 hsk).2.2) (hskip.1 hsk).2.1
    have hgiven : ¬(signed16 hi lo = -32768 ∨ s.skipsCell (signed16 hi lo) = true) :=
      not_or_intro hkeep (Bool.eq_false_iff.1 hno)
    rw [State.gainCell_writes hgiven, hno] at one
    exact reply (doWriteGains_taken hs hcls one)

end Sys2Proof.Machine
end

section
namespace Sys2Proof.Machine

/-! ### WRITE_GAINS of several codes (R89, R91, R92) -/

section
variable (s : State) (n : Fin 8) (value : Nat → Int)

/-- R91: what the i-th code of a command does to its cell; whether the cell takes it goes by the tiers that the command found. -/
def State.giveCell (v : State) (i : Nat) : State :=
  if value i = -32768 ∨ decide (s.skipsAt (s.window.on i) (value i)) = true then v
  else v.writeXp (s.window.on i).row (s.window.on i).col (clampInt (-960) 96 (value i)) n

theorem State.giveCell_buses (v : State) (i : Nat) : (s.giveCell n value v i).buses = v.buses := by
  unfold State.giveCell
  split <;> rfl

/-- The state before the i-th code, the counter apart. -/
def State.given (i : Nat) : State := (List.range i).foldl (s.giveCell n value) s

theorem State.given_buses (i : Nat) : (s.given n value i).buses = s.buses :=
  State.foldl_touches (P := fun v u => u.buses = v.buses) (fun _ => rfl) (fun _ _ _ h k => k.trans h)
    (s.giveCell_buses n value) _ s

theorem State.given_succ (i : Nat) : s.given n value (i + 1) = s.giveCell n value (s.given n value i) i := by
  rw [State.given, List.range_succ, List.foldl_append]
  rfl

/-- The i-th code meets the state its predecessors left, with the counter i cells on. -/
theorem State.gainCell_at (i : Nat) :
    State.gainCell { s.given n value i with window := s.window.on i } n (value i) =
        { s.given n value (i + 1) with window := s.window.on (i + 1) } ∧
      State.skipsCell { s.given n value i with window := s.window.on i } (value i) =
        decide (s.skipsAt (s.window.on i) (value i)) := by
  have hskip : State.skipsCell { s.given n value i with window := s.window.on i } (value i) =
      decide (s.skipsAt (s.window.on i) (value i)) := by
    rw [State.skipsCell_eq, decide_eq_decide]
    unfold State.skipsAt
    dsimp only
    rw [s.given_buses]
  refine ⟨?_, hskip⟩
  rw [s.given_succ, State.giveCell, ← hskip]
  split
  · next h =>
    rw [State.gainCell_leaves h]
    rfl
  · next h =>
    rw [State.gainCell_writes h]
    rfl

theorem State.gainCells_append (l : List Int) (x : Int) (v : State) :
    State.gainCells n (l ++ [x]) v =
      ((State.gainCells n l v).1.gainCell n x,
        (State.gainCells n l v).2 + boolNat ((State.gainCells n l v).1.skipsCell x)) := by
  induction l generalizing v with
  | nil => simp only [List.nil_append, State.gainCells]
  | cons y l ih =>
    simp only [List.cons_append, State.gainCells, ih]
    rw [Nat.add_right_comm]

/-- R91, R92: the codes in order, and the count of the cells skipped. -/
theorem State.gainCells_range (k : Nat) :
    State.gainCells n ((List.range k).map value) s =
      ({ s.given n value k with window := s.window.on k },
        (List.range k).countP fun i => decide (s.skipsAt (s.window.on i) (value i))) := by
  induction k with
  | zero => rfl
  | succ k ih =>
    obtain ⟨hcell, hskip⟩ := s.gainCell_at n value k
    rw [List.range_succ, List.map_append, List.map_singleton, State.gainCells_append, ih, hcell, hskip, List.countP_append,
      List.countP_singleton]
    rfl

end

theorem codesOf_octets16 (codes : List (BitVec 16)) :
    codesOf (codes.flatMap octets16) = (List.range codes.length).map fun i => (codes.getD i 0).toInt := by
  induction codes with
  | nil => rfl
  | cons w codes ih =>
    have hw : signed16 (w.extractLsb' 8 8) (w.extractLsb' 0 8) = w.toInt := congrArg BitVec.toInt (word16_octets16 w)
    have hpair : (w :: codes).flatMap octets16 = w.extractLsb' 8 8 :: w.extractLsb' 0 8 :: codes.flatMap octets16 := rfl
    rw [hpair, codesOf, hw, ih, List.length_cons, List.range_succ_eq_map, List.map_cons, List.map_map]
    rfl

theorem length_flatMap_octets16 (codes : List (BitVec 16)) : (codes.flatMap octets16).length = 2 * codes.length := by
  induction codes with
  | nil => rfl
  | cons w codes ih =>
    rw [List.flatMap_cons, List.length_append, ih, List.length_cons, Nat.mul_succ, Nat.add_comm]
    rfl

/-- Settles O26: the codes of the payload are the 16-bit words, and `State.gainCells_range` has them taken one after another. -/
theorem writeGainsTakesCellsInOrder : Obligations.WriteGainsTakesCellsInOrder := by
  intro s tag codes h h1 h26 command
  have reply : ∀ {cls : Octet} {t : State} {q : List Octet}, doWriteGains (cls :: codes.flatMap octets16) s = ⟨t, q⟩ →
      command cls = .next (t.respond 0x86#8 tag q) :=
    exec_writeGains_reply h tag (congrArg (· + 1) (length_flatMap_octets16 codes)) h1 h26
  refine ⟨fun cls n left hs => reply (doWriteGains_busy hs _), fun cls hs hcls => reply (doWriteGains_range hs hcls _), ?_⟩
  intro n hs counter value code skips cell written skipped
  have hcls : (BitVec.ofNat 8 n.val : Octet).toNat = n.val := toNat_octet (by omega)
  have hcells : State.gainCells n (codesOf (codes.flatMap octets16)) s =
      ({ written with window := counter codes.length }, skipped) := by
    rw [codesOf_octets16]
    exact s.gainCells_range n value codes.length
  refine (reply (doWriteGains_taken hs hcls hcells)).trans ?_
  have hstatus : (if skipped = 0 then Status.ok else .tier).octet = if skipped = 0 then 0x00#8 else 0x04#8 := by
    split <;> rfl
  rw [hstatus]
  rfl

end Sys2Proof.Machine
end

section
namespace Sys2Proof.Machine

/-! ### A crosspoint visited, and the others (R72, R73, R96) -/

/-- A write leaves the other crosspoints standing by (R72, R73, R76). -/
theorem Matrix.bystands_write {m : Matrix} (h : MatrixOk m) {r r' : Fin 256} {c c' : Fin 64} (t : Int) (n : Fin 8)
    (hne : ¬(r' = r ∧ c' = c)) : m.Bystands (m.write r c t n) r' c' := by
  by_cases hn : n = 0
  · rw [hn, Matrix.write_zero]
    cases he : m.entry r c with
    | some e => exact Matrix.bystands_stepTo h he t hne
    | none =>
      obtain ⟨hcell, hentry⟩ := Matrix.sameBut_stepTo_of_none he t r' c' hne
      exact .of_same hcell hentry
  · rw [Matrix.write_of_ne hn]
    obtain ⟨hcell, hentry⟩ := m.sameBut_rampTo r c t n r' c' hne
    exact .of_same hcell hentry

/-- R72: what a target with class 0 makes of its crosspoint. -/
theorem Matrix.write_zero_here {m : Matrix} (h : MatrixOk m) (r : Fin 256) (c : Fin 64) (t : Int) :
    (m.write r c t 0).cell r c = ⟨t, t, false⟩ ∧ (m.write r c t 0).entry r c = none := by
  rw [Matrix.write_zero]
  cases he : m.entry r c with
  | some e => exact Matrix.stepTo_here h he t
  | none =>
    rw [Matrix.stepTo_of_none he]
    exact ⟨m.setCell_cell_self r c _, he⟩

theorem Matrix.write_tgt {m : Matrix} (h : MatrixOk m) (r : Fin 256) (c : Fin 64) (t : Int) (n : Fin 8) :
    ((m.write r c t n).cell r c).tgt = t := by
  by_cases hn : n = 0
  · rw [hn, (Matrix.write_zero_here h r c t).1]
  · rw [Matrix.write_of_ne hn]
    exact (m.rampTo_codes r c t n).2

/-- The crosspoint is as a visit of class n leaves it (R96). -/
def Matrix.Swept (m : Matrix) (n : Fin 8) (r : Fin 256) (c : Fin 64) : Prop :=
  (m.cell r c).tgt = -960 ∧ (n = 0 → m.cell r c = ⟨-960, -960, false⟩ ∧ m.entry r c = none)

theorem Matrix.swept_write {m : Matrix} (h : MatrixOk m) (n : Fin 8) (r : Fin 256) (c : Fin 64) :
    (m.write r c (-960) n).Swept n r c :=
  ⟨Matrix.write_tgt h r c _ n, fun hn => by
    rw [hn]
    exact Matrix.write_zero_here h r c _⟩

theorem Matrix.Swept.bystands {m m' : Matrix} {n : Fin 8} {r : Fin 256} {c : Fin 64} (h : m.Swept n r c)
    (k : m.Bystands m' r c) : m'.Swept n r c := by
  obtain ⟨kcur, ktgt, _, kstand⟩ := k
  refine ⟨ktgt.trans h.1, fun hn => ?_⟩
  obtain ⟨hcell, hentry⟩ := h.2 hn
  rw [hcell] at kcur ktgt kstand
  obtain ⟨kentry, kpend⟩ := kstand hentry rfl
  exact ⟨Xp.eq_mk kcur ktgt kpend, kentry⟩

/-! ### The visits of an engine frame (R96) -/

/-- The crosspoint of a place of the row-major order (R96). -/
theorem xpKey_ofNat {k : Nat} (hk : k < 16384) : xpKey (Fin.ofNat 256 (k / 64)) (Fin.ofNat 64 (k % 64)) = k := by
  simp only [xpKey, Fin.val_ofNat]
  omega

/-- The visits of k crosspoints in row-major order, from `first` on (R96). -/
def State.visits (s : State) (n : Fin 8) (first k : Nat) : State :=
  (List.range k).foldl (fun v j =>
    v.writeXp (Fin.ofNat 256 ((first + j) / 64)) (Fin.ofNat 64 ((first + j) % 64)) (-960) n) s

theorem State.visits_succ (s : State) (n : Fin 8) (first k : Nat) :
    s.visits n first (k + 1) =
      (s.visits n first k).writeXp (Fin.ofNat 256 ((first + k) / 64)) (Fin.ofNat 64 ((first + k) % 64)) (-960) n := by
  rw [State.visits, List.range_succ, List.foldl_append]
  rfl

theorem State.visit_eq_visits (s : State) (n : Fin 8) {first : Nat} (h : first + 128 ≤ 16384) :
    s.visit n first = s.visits n first 128 := by
  refine List.foldl_ext _ _ _ fun v j hj => ?_
  have hj' : j < 128 := List.mem_range.1 hj
  have hlt : first + j < 16384 := by omega
  have hplace : xpOf ⟨first + j, hlt⟩ = (Fin.ofNat 256 ((first + j) / 64), Fin.ofNat 64 ((first + j) % 64)) := by
    refine Prod.ext (Fin.ext ?_) (Fin.ext ?_) <;> simp only [xpOf, Fin.val_ofNat] <;> omega
  rw [dif_pos hlt, hplace]
  rfl

/-- After k visits the pool rules' agreement holds, the crosspoints visited are swept, and the others keep their codes. -/
theorem State.visits_sweep {s : State} (h : MatrixOk s.matrix) (n : Fin 8) {first k : Nat} (hk : first + k ≤ 16384) :
    MatrixOk (s.visits n first k).matrix ∧ ∀ r c,
      (first ≤ xpKey r c → xpKey r c < first + k → (s.visits n first k).matrix.Swept n r c) ∧
      (xpKey r c < first ∨ first + k ≤ xpKey r c →
        ((s.visits n first k).matrix.cell r c).cur = (s.matrix.cell r c).cur ∧
          ((s.visits n first k).matrix.cell r c).tgt = (s.matrix.cell r c).tgt) := by
  induction k with
  | zero => exact ⟨h, fun r c => ⟨fun _ _ => by omega, fun _ => ⟨rfl, rfl⟩⟩⟩
  | succ k ih =>
    obtain ⟨hok, hcells⟩ := ih (by omega)
    have hkey := xpKey_ofNat (k := first + k) (by omega)
    rw [State.visits_succ]
    generalize Fin.ofNat 256 ((first + k) / 64) = x at hkey ⊢
    generalize Fin.ofNat 64 ((first + k) % 64) = y at hkey ⊢
    refine ⟨hok.write x y (-960) n, fun r c => ?_⟩
    obtain ⟨hswept, hkept⟩ := hcells r c
    by_cases hat : r = x ∧ c = y
    · obtain ⟨rfl, rfl⟩ := hat
      exact ⟨fun _ _ => Matrix.swept_write hok n r c, fun hout => by omega⟩
    · have hne : xpKey r c ≠ first + k := fun e => hat (xpKey_inj (e.trans hkey.symm))
      have hby := Matrix.bystands_write hok (-960) n hat
      refine ⟨fun hfrom hto => (hswept hfrom (by omega)).bystands hby, fun hout => ?_⟩
      obtain ⟨hcur, htgt⟩ := hkept (by omega)
      exact ⟨hby.1.trans hcur, hby.2.1.trans htgt⟩

/-! ### SWEEP_COMPLETION and the frame (R96, R97) -/

theorem State.sweepVisits_of_inFlight {s : State} {n : Fin 8} {left : Nat} (h : s.sweep = .inFlight n left) :
    s.sweepVisits =
      let w := s.visit n (16384 - left)
      if left ≤ 128 then { w with sweep := .idle, report := w.report.setItem .sweepDone }
      else { w with sweep := .inFlight n (left - 128) } := by
  rw [State.sweepVisits, h]
  rfl

theorem exec_sweepCompletion_last {s : State} {n : Fin 8} {left : Nat} (h : s.sweep = .inFlight n left) (hl : left ≤ 128) :
    exec .sweepCompletion s = .next s.sweepVisits := by
  have hlast : s.sweep.busy = true ∧ s.sweep.left ≤ sweepStep := by
    rw [h]
    exact ⟨rfl, hl⟩
  exact congrArg Host.Outcome.next (if_pos hlast)

theorem exec_sweepCompletion_none {s : State} (h : s.sweep = .idle ∨ ∃ n left, s.sweep = .inFlight n left ∧ 128 < left) :
    exec .sweepCompletion s = .next s := by
  have hno : ¬(s.sweep.busy = true ∧ s.sweep.left ≤ sweepStep) := by
    rintro ⟨hbusy, hl⟩
    rcases h with h | ⟨n, left, h, hlt⟩
    · exact (Sweep.busy_iff _).1 hbusy h
    · rw [h] at hl
      exact Nat.not_lt.2 hl hlt
  exact congrArg Host.Outcome.next (if_neg hno)

/-- Settles O31: a frame's visits are `State.sweepVisits`, which goes by the sweep alone, and `State.visits_sweep` has what they
make of the crosspoints. -/
theorem sweepCompletionEndsSweep : Obligations.SweepCompletionEndsSweep := by
  intro s
  refine ⟨fun n left hs hl => ?_, fun hs => exec_sweepCompletion_none hs, fun src => ?_, fun first hfirst n => ?_⟩
  · rw [exec_sweepCompletion_last hs hl, State.sweepVisits_of_inFlight hs]
    dsimp only
    rw [if_pos hl]
  · intro v
    have hv : v.sweep = s.sweep := State.computeFrame_sweep s src
    exact ⟨fun hs => State.sweepVisits_of_idle (hv.trans hs), fun n left hs => State.sweepVisits_of_inFlight (hv.trans hs)⟩
  · rw [State.visit_eq_visits s n hfirst]
    exact ⟨rfl, fun hok => (State.visits_sweep hok n hfirst).2⟩

end Sys2Proof.Machine
end

section
namespace Sys2Proof.Machine

/-! ### READ_TABLE (R164, R171) -/

theorem exec_readTable_reply {s : State} (h : s.ready) (tag : Octet) {p q : List Octet} (hp : p.length = 3)
    (hr : doReadTable p s = ⟨s, q⟩) : exec (.readTable tag p) s = .next (s.respond 0x82#8 tag q) :=
  exec_reply h (k := 2#8) rfl (by decide) (beq_iff_eq.2 hp) hr

theorem doReadTable_beyond (s : State) {sp : Octet} (h : 7 < sp.toNat) (first count : Octet) :
    doReadTable [sp, first, count] s = .counted s .range 0 := by
  rw [doReadTable, List.getD_cons_zero, index?_of_le h]

theorem doReadTable_space (s : State) {sp : Octet} {space : Fin 8} (h : sp.toNat = space.val) (first count : Octet) :
    doReadTable [sp, first, count] s =
      if count.toNat = 0 ∨ recordCount space ≤ first.toNat then .counted s .range 0
      else
        let n := recordsRead space first.toNat count.toNat
        .withData s (if n = count.toNat then .ok else .partialDone)
          (octet n :: (List.range n).flatMap fun j => s.readRecord space (first.toNat + j)) := by
  rw [doReadTable, List.getD_cons_zero, h, index?_val]
  rfl

theorem Status.octet_okOrPartial (c : Prop) [Decidable c] :
    (if c then Status.ok else .partialDone).octet = if c then 0x00#8 else 0x01#8 := by
  split <;> rfl

/-! ### The layouts of the records (R116, R172) -/

theorem index?_map_getD {α : Type} {n : Nat} (i : Fin n) (f : Fin n → α) (d : α) :
    ((index? n i.val).map f).getD d = f i := by
  rw [index?_val]
  rfl

theorem Chan.record_eq (c : Chan) :
    c.record = octets16 (BitVec.ofInt 16 c.trim.target) ++
      [match c.group with | none => 0xFF#8 | some g => BitVec.ofNat 8 g.val,
       (if c.polarity = .inverted then 0x10#8 else 0x00#8) ||| (if c.opMute then 1#8 else 0#8), BitVec.ofNat 8 c.cls.val] := by
  have hgroup : groupOctet c.group = match c.group with | none => 0xFF#8 | some g => BitVec.ofNat 8 g.val := by
    cases c.group <;> rfl
  have hflags : octet (polarityBit c.polarity * 16 + boolNat c.opMute) =
      (if c.polarity = .inverted then 0x10#8 else 0x00#8) ||| (if c.opMute then 1#8 else 0#8) := by
    cases c.polarity <;> cases c.opMute <;> rfl
  rw [Chan.record, hgroup, hflags]
  rfl

theorem Bus.record_eq (b : Bus) :
    b.record = BitVec.ofNat 8 b.tier.val :: octets16 (BitVec.ofInt 16 b.level.target) ++
      [if b.muted then 1#8 else 0#8, BitVec.ofNat 8 b.cls.val] := by
  rw [Bus.record, octet_boolNat]
  rfl

theorem AcceptRec.record_eq (a : AcceptRec) :
    a.record = [if a.accept then 1#8 else 0#8, BitVec.ofNat 8 a.min, BitVec.ofNat 8 a.max] := by
  rw [AcceptRec.record, octet_boolNat]
  rfl

theorem Window.record_eq (w : Window) :
    w.record = [if w.enabled then 1#8 else 0#8, BitVec.ofNat 8 w.first, BitVec.ofNat 8 w.last, BitVec.ofNat 8 w.chan] := by
  rw [Window.record, octet_boolNat]
  rfl

/-- R116: a punch state in the upper half of the octet, the class in the lower. -/
theorem octet_halves (k : Fin 5) (cls : Fin 8) :
    octet (k.val * 16 + cls.val) = BitVec.ofNat 8 (k.val * 16) ||| BitVec.ofNat 8 cls.val := by
  revert k cls
  decide

theorem Slot.record_eq (t : Slot) :
    t.record =
      (match t.use with
       | .off => [0x00#8, 0x00#8, 0x00#8]
       | .bus b => [0x01#8, BitVec.ofNat 8 b.val, 0x00#8]
       | .direct i => [0x02#8, BitVec.ofNat 8 i.val, 0x00#8]
       | .punch b p _ _ => [0x03#8, BitVec.ofNat 8 b.val, BitVec.ofNat 8 p.val]) ++
      [(match t.use with
        | .punch _ _ .replay _ => 0x10#8
        | .punch _ _ .toLive _ => 0x20#8
        | .punch _ _ .live _ => 0x30#8
        | .punch _ _ .toReplay _ => 0x40#8
        | _ => 0x00#8) ||| BitVec.ofNat 8 t.cls.val] := by
  unfold Slot.record
  cases t.use with
  | punch b p state k =>
    cases state with
    | replay => exact congrArg (fun o => [_, _, _, o]) (octet_halves 1 t.cls)
    | toLive => exact congrArg (fun o => [_, _, _, o]) (octet_halves 2 t.cls)
    | live => exact congrArg (fun o => [_, _, _, o]) (octet_halves 3 t.cls)
    | toReplay => exact congrArg (fun o => [_, _, _, o]) (octet_halves 4 t.cls)
  | _ => exact congrArg (fun o => [_, _, _, o]) (octet_halves 0 t.cls)

theorem NoticeRec.record_eq (n : NoticeRec) :
    n.record =
      [match n.steer with | .none => 0x00#8 | .x => 0x01#8 | .y => 0x02#8 | .both => 0x03#8,
       match n.mode with | .onReport => 0x00#8 | .onWrite => 0x01#8] := by
  have hsteer : octet (steerCode n.steer) =
      match n.steer with | .none => 0x00#8 | .x => 0x01#8 | .y => 0x02#8 | .both => 0x03#8 := by
    cases n.steer <;> rfl
  have hmode : octet (modeCode n.mode) = match n.mode with | .onReport => 0x00#8 | .onWrite => 0x01#8 := by
    cases n.mode <;> rfl
  rw [NoticeRec.record, hsteer, hmode]

/-- Settles O13: `doReadTable` by the space, first index and count; each record by the lemma about its layout. -/
theorem readTableReturnsRecords : Obligations.ReadTableReturnsRecords := by
  intro s
  refine ⟨fun tag sp first count hready => ⟨fun hsp => ?_, fun space hsp => ?_⟩, ?_⟩
  · exact exec_readTable_reply hready tag rfl (doReadTable_beyond s hsp first count)
  · intro size records n
    have hread := doReadTable_space s hsp first count
    refine ⟨fun h => ?_, fun hcount hfirst => ?_⟩
    · exact exec_readTable_reply hready tag rfl (hread.trans (if_pos h))
    · refine exec_readTable_reply hready tag rfl (hread.trans ((if_neg ?_).trans ?_))
      · exact fun h => h.elim (by omega) (Nat.not_le.2 hfirst)
      · have hn : recordsRead space first.toNat count.toNat = n := by
          rw [recordsRead, ← recordSize_eq]
          rfl
        dsimp only
        rw [hn]
        exact congrArg (Reply.mk s) (congrArg₂ List.cons (Status.octet_okOrPartial _) rfl)
  · intro code flag
    exact ⟨fun i => (index?_map_getD i _ _).trans (Chan.record_eq _), fun b => (index?_map_getD b _ _).trans (Bus.record_eq _),
      fun g => index?_map_getD g _ _, fun a => (index?_map_getD a _ _).trans (AcceptRec.record_eq _),
      fun w => (index?_map_getD w _ _).trans (Window.record_eq _), fun t => (index?_map_getD t _ _).trans (Slot.record_eq _),
      fun c => (index?_map_getD c _ _).trans (NoticeRec.record_eq _), rfl⟩

/-! ### WRITE_TABLE of one EGRESS record (R115, R126) -/

section
variable {s : State} (h : s.ready) (tag idx kind index rep clsOctet : Octet)
include h

theorem exec_writeTable_egress_refused {e : Status} (hw : s.writeEgress idx.toNat [kind, index, rep, clsOctet] = .error e) :
    exec (.writeTable tag [5#8, idx, kind, index, rep, clsOctet]) s = .next (s.respond 0x83#8 tag [e.octet, 0#8]) :=
  exec_writeTable_refused h tag idx (space := 5) (by decide) (by decide) rfl hw

theorem exec_writeTable_egress_written {t : State} (hw : s.writeEgress idx.toNat [kind, index, rep, clsOctet] = .ok t) :
    exec (.writeTable tag [5#8, idx, kind, index, rep, clsOctet]) s = .next (t.respond 0x83#8 tag [0x00#8, 1#8]) :=
  exec_writeTable_written h tag idx (space := 5) (by decide) (by decide) rfl hw

end

theorem State.writeEgress_slot (s : State) (t : Fin 128) (kind index rep clsOctet : Octet) :
    s.writeEgress (octet t.val).toNat [kind, index, rep, clsOctet] =
      if s.egress[t].moving then .error .busy
      else s.putSlot t kind.toNat index.toNat rep.toNat (clsOctet.toNat % 16) := by
  rw [State.writeEgress, toNat_octet (by omega), ranged_index_val]
  rfl

/-- Settles O19: BUSY by `Slot.moving_iff`; in a slot at rest the record is `State.putSlot`. -/
theorem writeEgressRecord : Obligations.WriteEgressRecord := by
  intro s hready
  refine ⟨fun tag idx kind index rep clsOctet hidx => ?_, fun tag kind index rep clsOctet t => ?_⟩
  · exact exec_writeTable_egress_refused hready tag idx kind index rep clsOctet (e := .range) (ranged_index_refused hidx _)
  · intro command cls
    have hwrite := s.writeEgress_slot t kind index rep clsOctet
    have hrest : ¬s.egress[t].crossfades →
        s.writeEgress (octet t.val).toNat [kind, index, rep, clsOctet] = s.putSlot t kind.toNat index.toNat rep.toNat cls :=
      fun hfree => hwrite.trans (if_neg (mt (Slot.moving_iff _).1 hfree))
    refine ⟨fun hmoves => ?_, fun hfree hbad => ?_, fun hfree slot hmade => ?_⟩
    · exact exec_writeTable_egress_refused hready tag _ kind index rep clsOctet
        (hwrite.trans (if_pos ((Slot.moving_iff _).2 hmoves)))
    · exact exec_writeTable_egress_refused hready tag _ kind index rep clsOctet ((hrest hfree).trans (s.putSlot_refused t hbad))
    · exact exec_writeTable_egress_written hready tag _ kind index rep clsOctet ((hrest hfree).trans (s.putSlot_made t hmade))

end Sys2Proof.Machine
end

section
namespace Sys2Proof.Machine

/-! ### A punch operation on one slot after another (R122 to R125) -/

/-- What a request and a punch advance have in common: slot i's use by `g`, and its item when it arrives by `a`. -/
def State.reslot (g : Slot → SlotUse) (a : Slot → Bool) (s : State) (i : Fin 128) : State :=
  { s with
    egress := s.egress.set i { s.egress[i] with use := g s.egress[i] }
    report := if a s.egress[i] = true then s.report.setItem (.punch i) else s.report }

theorem State.punchRequest_eq_reslot (s : State) (i : Fin 128) (into : Bool) :
    s.punchRequest i into = s.reslot (·.requested into) (·.arrivesAtRequest into) i := rfl

theorem State.advancePunches_eq_reslot (s : State) :
    s.advancePunches = (List.finRange 128).foldl (State.reslot Slot.advanced Slot.arrives) s := rfl

/-- The items of those slots of `l` that arrive by `a`, set in the order of `l`. -/
def Report.setPunches (a : Fin 128 → Bool) (l : List (Fin 128)) (r : Report) : Report :=
  l.foldl (fun r t => if a t = true then r.setItem (.punch t) else r) r

section
variable (g : Slot → SlotUse) (a : Slot → Bool) (s : State)

theorem State.reslot_egress (i t : Fin 128) :
    (s.reslot g a i).egress[t] = if t = i then { s.egress[t] with use := g s.egress[t] } else s.egress[t] := by
  by_cases h : t = i
  · subst h
    simp [State.reslot]
  · have hv : i.val ≠ t.val := fun e => h (Fin.ext e.symm)
    simp [State.reslot, h, hv]

theorem State.foldl_reslot_egress (l : List (Fin 128)) (hl : l.Nodup) (t : Fin 128) :
    (l.foldl (State.reslot g a) s).egress[t] =
      if t ∈ l then { s.egress[t] with use := g s.egress[t] } else s.egress[t] := by
  induction l generalizing s with
  | nil => rfl
  | cons i l ih =>
    obtain ⟨hi, hl⟩ := List.nodup_cons.1 hl
    rw [List.foldl_cons, ih _ hl, State.reslot_egress]
    by_cases h : t = i
    · subst h
      rw [if_neg hi, if_pos rfl, if_pos List.mem_cons_self]
    · simp only [h, if_false, List.mem_cons, false_or]

/-- Each slot of the list arrives by what it was before the first of them was reached. -/
theorem State.foldl_reslot_report (was : Vector Slot 128) (l : List (Fin 128)) (hl : l.Nodup)
    (hs : ∀ t ∈ l, s.egress[t] = was[t]) :
    (l.foldl (State.reslot g a) s).report = s.report.setPunches (fun t => a was[t]) l := by
  induction l generalizing s with
  | nil => rfl
  | cons i l ih =>
    obtain ⟨hi, hl⟩ := List.nodup_cons.1 hl
    obtain ⟨hsi, hsl⟩ := List.forall_mem_cons.1 hs
    rw [List.foldl_cons, ih _ hl, Report.setPunches, Report.setPunches, List.foldl_cons, ← hsi]
    · rfl
    · intro t ht
      rw [State.reslot_egress, if_neg fun e : t = i => hi (e ▸ ht)]
      exact hsl t ht

theorem State.foldl_reslot_touches (l : List (Fin 128)) :
    ∃ eg rp, l.foldl (State.reslot g a) s = { s with egress := eg, report := rp } := by
  refine State.foldl_touches (P := fun s t => ∃ eg rp, t = { s with egress := eg, report := rp })
    (fun s => ⟨_, _, rfl⟩) ?_ (fun s i => ⟨_, _, rfl⟩) l s
  rintro s t u ⟨_, _, rfl⟩ ⟨_, _, rfl⟩
  exact ⟨_, _, rfl⟩

/-- A list of slots reached once each: each turns and arrives by what it was before. -/
theorem State.foldl_reslot (l : List (Fin 128)) (hl : l.Nodup) :
    l.foldl (State.reslot g a) s =
      { s with
        egress := Vector.ofFn fun t => if t ∈ l then { s.egress[t] with use := g s.egress[t] } else s.egress[t]
        report := s.report.setPunches (fun t => a s.egress[t]) l } := by
  have hegress := s.foldl_reslot_egress g a l hl
  have hreport := s.foldl_reslot_report g a s.egress l hl fun _ _ => rfl
  obtain ⟨eg, rp, h⟩ := s.foldl_reslot_touches g a l
  rw [h] at hegress hreport ⊢
  have heg : eg = Vector.ofFn fun t => if t ∈ l then { s.egress[t] with use := g s.egress[t] } else s.egress[t] := by
    ext t ht : 1
    rw [Vector.getElem_ofFn]
    exact hegress ⟨t, ht⟩
  rw [heg, show rp = _ from hreport]

end

/-! ### PUNCH (R127) -/

/-- The slots first..first + count − 1, in ascending order. -/
def slotRun (first count : Nat) : List (Fin 128) := (List.range count).filterMap fun j => index? 128 (first + j)

theorem index?_eq_some_iff {n x : Nat} {i : Fin n} : index? n x = some i ↔ x = i.val :=
  ⟨index?_eq_some, fun h => h ▸ index?_val i⟩

theorem mem_slotRun {first count : Nat} {t : Fin 128} :
    t ∈ slotRun first count ↔ first ≤ t.val ∧ t.val < first + count := by
  simp only [slotRun, List.mem_filterMap, List.mem_range, index?_eq_some_iff]
  constructor
  · rintro ⟨j, hj, he⟩
    omega
  · intro h
    exact ⟨t.val - first, by omega, by omega⟩

theorem slotRun_ascending (first count : Nat) : (slotRun first count).Pairwise (· < ·) := by
  refine List.Pairwise.filterMap _ (fun i j hij a ha b hb => ?_) List.pairwise_lt_range
  rw [index?_eq_some_iff] at ha hb
  exact Fin.lt_def.2 (by omega)

theorem slotRun_nodup (first count : Nat) : (slotRun first count).Nodup := (slotRun_ascending first count).imp ne_of_lt

theorem slotRun_eq_filter (first count : Nat) :
    slotRun first count = (List.finRange 128).filter fun t => decide (first ≤ t.val ∧ t.val < first + count) := by
  refine List.Pairwise.eq_of_mem_iff (slotRun_ascending first count) (List.pairwise_lt_finRange 128 |>.filter _) fun t => ?_
  rw [mem_slotRun, List.mem_filter, decide_eq_true_iff]
  exact (and_iff_right (List.mem_finRange t)).symm

/-- A request to a slot of another kind than PUNCH would change nothing. -/
theorem Slot.requested_of_not_punch {t : Slot} (h : ¬t.isPunch = true) (into : Bool) :
    t.requested into = t.use ∧ t.arrivesAtRequest into = false := by
  unfold Slot.isPunch at h
  unfold Slot.requested Slot.arrivesAtRequest
  cases hu : t.use with
  | punch b p state k => exact absurd (by rw [hu]) h
  | _ => exact ⟨rfl, rfl⟩

theorem State.punchRun_eq (s : State) (first count : Nat) (into : Bool) :
    s.punchRun first count into =
      (slotRun first count).foldl (State.reslot (·.requested into) (·.arrivesAtRequest into)) s := by
  rw [slotRun, List.foldl_filterMap]
  refine congrArg (fun f => List.foldl f s (List.range count)) (funext fun s => funext fun j => ?_)
  by_cases h : first + j < 128
  · rw [dif_pos h, index?_of_lt h]
    refine Eq.trans ?_ (s.punchRequest_eq_reslot ⟨first + j, h⟩ into)
    split
    · rfl
    · next hp =>
      obtain ⟨hu, ha⟩ := Slot.requested_of_not_punch (t := s.egress[first + j]) hp into
      exact (s.punchRequest_stays ⟨first + j, h⟩ into hu ha).symm
  · rw [dif_neg h, index?_of_le (Nat.not_lt.1 h)]

theorem State.punchCount_eq (s : State) (first count : Nat) :
    s.punchCount first count = (slotRun first count).countP fun t => s.egress[t].isPunch := by
  rw [State.punchCount, ← List.countP_eq_length_filter, slotRun, List.countP_filterMap]
  refine congrArg (fun p => List.countP p (List.range count)) (funext fun j => ?_)
  by_cases h : first + j < 128
  · rw [dif_pos h, index?_of_lt h]
    rfl
  · rw [dif_neg h, index?_of_le (Nat.not_lt.1 h)]
    rfl

/-- R122, R123, R125, in the words of the statement. -/
theorem Slot.requested_eq (t : Slot) (into : Prop) [Decidable into] :
    t.requested (decide into) = match t.use with
      | .punch b p .replay k => .punch b p (if into then (if rampLen t.cls = 0 then .live else .toLive) else .replay) k
      | .punch b p .toReplay k => .punch b p (if into then .toLive else .toReplay) k
      | .punch b p .live k => .punch b p (if into then .live else (if rampLen t.cls = 0 then .replay else .toReplay)) k
      | .punch b p .toLive k => .punch b p (if into then .toLive else .toReplay) k
      | u => u := by
  cases hu : t.use with
  | punch b p state k =>
    by_cases hi : into <;> by_cases h0 : rampLen t.cls = 0 <;> cases state <;> simp [Slot.requested, hu, hi, h0, Slot.len]
  | _ => simp only [Slot.requested, hu]

theorem Slot.arrivesAtRequest_eq (t : Slot) (into : Prop) [Decidable into] :
    t.arrivesAtRequest (decide into) = match t.use with
      | .punch _ _ .replay _ => decide (into ∧ rampLen t.cls = 0)
      | .punch _ _ .live _ => decide (¬into ∧ rampLen t.cls = 0)
      | _ => false := by
  cases hu : t.use with
  | punch b p state k => cases state <;> simp [Slot.arrivesAtRequest, hu, Slot.len, beq_eq_decide]
  | _ => simp only [Slot.arrivesAtRequest, hu]

theorem doPunch_refused (s : State) {first count dir : Octet}
    (h : 127 < first.toNat ∨ count.toNat = 0 ∨ 128 < first.toNat + count.toNat ∨ 1 < dir.toNat) :
    doPunch [first, count, dir] s = .counted s .range 0 := by
  simp only [doPunch, List.getD_cons_zero, List.getD_cons_succ]
  by_cases hrun : 127 < first.toNat ∨ count.toNat = 0 ∨ 128 < first.toNat + count.toNat
  · rw [if_pos hrun]
  · rw [if_neg hrun, bit?_of_lt (by omega)]

theorem doPunch_run (s : State) {first count dir : Octet} (hcount : 1 ≤ count.toNat)
    (hrun : first.toNat + count.toNat ≤ 128) (hdir : dir.toNat ≤ 1) :
    doPunch [first, count, dir] s =
      .counted (s.punchRun first.toNat count.toNat (decide (dir.toNat = 1)))
        (if s.punchCount first.toNat count.toNat = count.toNat then .ok else .partialDone)
        (s.punchCount first.toNat count.toNat) := by
  simp only [doPunch, List.getD_cons_zero, List.getD_cons_succ]
  rw [if_neg (by omega), bit?_of_le hdir]

theorem exec_punch_reply {s t : State} (h : s.ready) (tag : Octet) {p q : List Octet} (hp : p.length = 3)
    (hr : doPunch p s = ⟨t, q⟩) : exec (.punch tag p) s = .next (t.respond 0x8B#8 tag q) :=
  exec_reply h (k := 11#8) rfl (by decide) (beq_iff_eq.2 hp) hr

theorem Slot.isPunch_eq (t : Slot) : t.isPunch = match t.use with | .punch _ _ _ _ => true | _ => false := by
  unfold Slot.isPunch
  cases t.use <;> rfl

/-- Settles O36: the run is `slotRun`, each slot of which is reached once and turns as `Slot.requested_eq` has it. -/
theorem punchRequestsRun : Obligations.PunchRequestsRun := by
  intro s tag first count dir hready command inRun into
  refine ⟨fun h => exec_punch_reply hready tag rfl (doPunch_refused s h), fun hcount hrun hdir => ?_⟩
  intro instant use arrives reached
  have hcount' : s.punchCount first.toNat count.toNat = reached := by
    rw [State.punchCount_eq, slotRun_eq_filter, List.countP_filter]
    refine congrArg (fun p => List.countP p (List.finRange 128)) (funext fun t => ?_)
    exact (congrArg (· && decide (inRun t)) (Slot.isPunch_eq _)).trans (Bool.and_comm _ _)
  have hreport : s.report.setPunches (fun t => s.egress[t].arrivesAtRequest (decide into)) (slotRun first.toNat count.toNat) =
      (List.finRange 128).foldl (fun r t => if inRun t ∧ arrives t = true then r.setItem (.punch t) else r) s.report := by
    rw [slotRun_eq_filter, Report.setPunches, List.foldl_filter]
    refine congrArg (fun f => List.foldl f s.report (List.finRange 128)) (funext fun r => funext fun t => ?_)
    rw [Slot.arrivesAtRequest_eq, ite_and]
    simp only [decide_eq_true_eq]
    rfl
  have hdo := doPunch_run s hcount hrun hdir
  rw [hcount', s.punchRun_eq, s.foldl_reslot _ _ _ (slotRun_nodup _ _), hreport] at hdo
  simp only [mem_slotRun, Slot.requested_eq] at hdo
  rw [exec_punch_reply hready tag rfl hdo, Status.octet_okOrPartial]
  rfl

end Sys2Proof.Machine
end

section
namespace Sys2Proof.Machine

/-! ### The punch advance of one slot (R124) -/

/-- R120, R124: a slot that comes to L or to 0. -/
theorem Slot.arrives_eq (t : Slot) :
    t.arrives = match t.use with
      | .punch _ _ .toLive k => decide (k + 1 = rampLen t.cls ∨ k = rampLen t.cls)
      | .punch _ _ .toReplay k => decide (k ≤ 1)
      | _ => false := by
  unfold Slot.arrives
  cases t.use with
  | punch b p state k =>
    cases state with
    | toLive =>
      have hlive : (if k < t.len then k + 1 else k) = t.len ↔ k + 1 = t.len ∨ k = t.len := by split <;> omega
      exact Bool.eq_iff_iff.2 (beq_iff_eq.trans (hlive.trans decide_eq_true_iff.symm))
    | toReplay =>
      have hreplay : k - 1 = 0 ↔ k ≤ 1 := by omega
      exact Bool.eq_iff_iff.2 (beq_iff_eq.trans (hreplay.trans decide_eq_true_iff.symm))
    | _ => rfl
  | _ => rfl

theorem Slot.advanced_eq {t : Slot} {a : Bool} (ha : t.arrives = a) :
    t.advanced = match t.use with
      | .punch b p .toLive k =>
        if a = true then .punch b p .live (rampLen t.cls)
        else .punch b p .toLive (if k < rampLen t.cls then k + 1 else k)
      | .punch b p .toReplay k => if a = true then .punch b p .replay 0 else .punch b p .toReplay (k - 1)
      | still => still := by
  subst ha
  unfold Slot.advanced Slot.arrives
  cases t.use with
  | punch b p state k =>
    cases state with
    | toLive =>
      simp only [beq_iff_eq]
      by_cases h : (if k < t.len then k + 1 else k) = t.len
      · rw [if_pos h, if_pos h, h]
        rfl
      · rw [if_neg h, if_neg h]
        rfl
    | toReplay => simp only [beq_iff_eq]
    | _ => rfl
  | _ => rfl

section
variable {t : Slot} {b : Fin 64} {p : Fin 192} {k : Nat}

theorem Slot.arrives_toLive (hu : t.use = .punch b p .toLive k) :
    t.arrives = true ↔ k + 1 = rampLen t.cls ∨ k = rampLen t.cls := by
  rw [Slot.arrives_eq, hu]
  exact decide_eq_true_iff

theorem Slot.arrives_toReplay (hu : t.use = .punch b p .toReplay k) : t.arrives = true ↔ k ≤ 1 := by
  rw [Slot.arrives_eq, hu]
  exact decide_eq_true_iff

end

/-! ### PUNCH_ARRIVAL (log entry 6) -/

theorem exec_punchArrival_arrives {s : State} {t : Fin 128} {use : SlotUse} (h : s.egress[t].arrives = true)
    (hu : s.egress[t].advanced = use) :
    exec (.punchArrival t) s = .next { s with
      egress := s.egress.set t { s.egress[t] with use := use }
      report := s.report.setItem (.punch t) } := by
  subst hu
  have hslot : s.advanceSlot t = { s with
      egress := s.egress.set t { s.egress[t] with use := s.egress[t].advanced }
      report := s.report.setItem (.punch t) } := by
    rw [State.advanceSlot, if_pos h]
  exact congrArg Host.Outcome.next ((if_pos h).trans hslot)

theorem exec_punchArrival_none {s : State} {t : Fin 128} (h : ¬s.egress[t].arrives = true) :
    exec (.punchArrival t) s = .next s := congrArg Host.Outcome.next (if_neg h)

/-! ### The items of one class (R174, R175) -/

theorem Report.setItem_of_unsteered {r : Report} {i : Item} (h : r.notices[itemClass i].steer = .none) :
    r.setItem i = if r.isSet i = true then r
      else { r with items := r.items.set (itemClass i) (r.items[itemClass i] ||| itemBit i) } := by
  unfold Report.setItem
  split
  · rfl
  · rfl

theorem Report.setItem_items_self {r : Report} {i : Item} (h : r.notices[itemClass i].steer = .none) {n : Nat} (hn : n < 128) :
    (r.setItem i).items[itemClass i].getLsbD n = true ↔
      r.items[itemClass i].getLsbD n = true ∨ n = itemIndex i := by
  have hbit : (itemBit i).getLsbD n = true ↔ n = itemIndex i := by
    simp [itemBit]
    omega
  rw [Report.setItem_of_unsteered h]
  split
  · next hset =>
    refine (or_iff_left_of_imp fun e => ?_).symm
    rw [e]
    exact hset
  · simp only [Fin.getElem_fin, Vector.getElem_set_self, BitVec.getLsbD_or, Bool.or_eq_true, hbit]

section
variable (a : Fin 128 → Bool) (l : List (Fin 128)) (r : Report)

theorem Report.setPunches_notices : (r.setPunches a l).notices = r.notices := by
  induction l generalizing r with
  | nil => rfl
  | cons i l ih =>
    refine (ih _).trans ?_
    dsimp only
    split
    · exact r.setItem_notices _
    · rfl

theorem Report.setPunches_items (h : r.notices[(4 : Fin 8)].steer = .none) (t : Fin 128) :
    (r.setPunches a l).items[(4 : Fin 8)].getLsbD t.val = true ↔
      r.items[(4 : Fin 8)].getLsbD t.val = true ∨ (t ∈ l ∧ a t = true) := by
  induction l generalizing r with
  | nil => simp [Report.setPunches]
  | cons i l ih =>
    have hhead : (r.setPunches a [i]).items[(4 : Fin 8)].getLsbD t.val = true ↔
        r.items[(4 : Fin 8)].getLsbD t.val = true ∨ (t = i ∧ a t = true) := by
      simp only [Report.setPunches, List.foldl_cons, List.foldl_nil]
      split
      · next ha =>
        refine (Report.setItem_items_self (i := .punch i) h t.isLt).trans (or_congr_right ?_)
        exact ⟨fun e => have he := Fin.ext e; ⟨he, he ▸ ha⟩, fun e => congrArg Fin.val e.1⟩
      · next ha => exact (or_iff_left fun e : t = i ∧ a t = true => ha (e.1 ▸ e.2)).symm
    refine (ih (r.setPunches a [i]) (by rw [Report.setPunches_notices]; exact h)).trans ?_
    rw [hhead, or_assoc, List.mem_cons, or_and_right]

end

/-- The steering stays, and the items of class c while no notice carries it (R175). -/
def Report.SparesClass (c : Fin 8) (r q : Report) : Prop :=
  q.notices = r.notices ∧ (r.notices[c].steer = .none → q.items[c] = r.items[c])

section
variable {c : Fin 8}

theorem Report.SparesClass.refl (r : Report) : r.SparesClass c r := ⟨rfl, fun _ => rfl⟩

theorem Report.SparesClass.trans {r q p : Report} (h : r.SparesClass c q) (k : q.SparesClass c p) : r.SparesClass c p := by
  obtain ⟨hn, hi⟩ := h
  obtain ⟨kn, ki⟩ := k
  exact ⟨kn.trans hn, fun hu => (ki (by rw [hn]; exact hu)).trans (hi hu)⟩

theorem Report.SparesClass.ite {d : Prop} {_ : Decidable d} {r q p : Report} (hq : r.SparesClass c q)
    (hp : r.SparesClass c p) : r.SparesClass c (if d then q else p) := by
  split
  · exact hq
  · exact hp

theorem Report.SparesClass.setItem (r : Report) {i : Item} (hi : itemClass i ≠ c) : r.SparesClass c (r.setItem i) :=
  ⟨r.setItem_notices i, fun h => Report.setItem_items_of_ne h hi⟩

theorem Report.SparesClass.addCount (r : Report) (hc : c ≠ 6) (n : Fin 84) : r.SparesClass c (r.addCount n) :=
  ⟨r.addCount_notices n, fun h => Report.addCount_items_of_ne h hc n⟩

/-- Sums and clips set items of CLIP and COUNTER alone (R112, R183). -/
theorem State.computeFrame_sparesClass (h1 : c ≠ 1) (h6 : c ≠ 6) (s : State) (src : FrameSource) :
    s.report.SparesClass c (s.computeFrame src).report := by
  rw [State.computeFrame_eq]
  refine State.foldl_touches (P := fun s t => s.report.SparesClass c t.report) (fun s => .refl s.report)
    (fun _ _ _ => .trans) (fun s b => ?_) _ s
  exact .ite ((Report.SparesClass.setItem s.report (i := .clip b) h1.symm).trans (.addCount _ h6 _)) (.refl s.report)

/-- The sweep's visits set items of MATRIX and COUNTER alone (R74, R97, R183). -/
theorem State.sweepVisits_sparesClass (h3 : c ≠ 3) (h6 : c ≠ 6) (s : State) :
    s.report.SparesClass c s.sweepVisits.report := by
  have hwrite : ∀ (s : State) (r : Fin 256) (k : Fin 64) (t : Int) (n : Fin 8),
      s.report.SparesClass c (s.writeXp r k t n).report := fun s r k t n => by
    have hcount : s.report.SparesClass c (s.report.addCount rampsDelayedCount) := .addCount _ h6 _
    exact .ite (.ite (hcount.trans (.setItem _ h3.symm)) hcount) (.refl s.report)
  have hvisit : ∀ n k, s.report.SparesClass c (s.visit n k).report := fun n k => by
    refine State.foldl_touches (P := fun s t => s.report.SparesClass c t.report) (fun s => .refl s.report)
      (fun _ _ _ => .trans) (fun s j => ?_) _ s
    split
    · exact hwrite s _ _ _ _
    · exact .refl s.report
  unfold State.sweepVisits
  split
  · exact .refl s.report
  · next n left _ =>
    have hv := hvisit n (16384 - left)
    dsimp only
    revert hv
    generalize s.visit n (16384 - left) = t
    intro hv
    split
    · exact hv.trans (.setItem t.report h3.symm)
    · exact hv

end

/-! ### The punch advance of an engine frame (R120, R124) -/

theorem State.frameMoves_reslot (s : State) (src : FrameSource) :
    s.frameMoves src =
      { (s.frameEvents src).advanceRamps with
        egress := Vector.ofFn fun t =>
          { (s.frameEvents src).egress[t] with use := (s.frameEvents src).egress[t].advanced }
        report := (s.frameEvents src).report.setPunches (fun t => (s.frameEvents src).egress[t].arrives)
          (List.finRange 128) } := by
  rw [State.frameMoves, State.advancePunches_eq_reslot, State.foldl_reslot _ _ _ _ (List.nodup_finRange 128)]
  simp only [List.mem_finRange, if_true, State.advanceRamps_egress, State.advanceRamps_report]

theorem State.frameEvents_notices (s : State) (src : FrameSource) :
    (s.frameEvents src).report.notices = s.report.notices :=
  (((State.SparesClips.frameStart s).trans (.track _ src)).trans (.automate _)).1

/-- Settles O37: a slot's own advance by `Slot.arrives_eq` and `Slot.advanced_eq`, the frame's by `State.frameMoves_reslot`; the
rest of the frame spares the items of PUNCH. -/
theorem punchArrivalEndsCrossfade : Obligations.PunchArrivalEndsCrossfade := by
  intro s
  refine ⟨fun hok t => ?_, fun src => ?_⟩
  · intro arrived len
    have ht := hok t
    refine ⟨fun b p k hu hk => ?_, fun b p k hu hk => ?_, fun h => ?_⟩
    · have hk' : k ≤ len := by
        rw [Slot.ok, hu] at ht
        exact ht.2
      have ha : s.egress[t].arrives = true := (Slot.arrives_toLive hu).2 (by omega)
      refine exec_punchArrival_arrives ha ?_
      rw [Slot.advanced_eq ha, hu]
      exact if_pos rfl
    · have ha : s.egress[t].arrives = true := (Slot.arrives_toReplay hu).2 hk
      refine exec_punchArrival_arrives ha ?_
      rw [Slot.advanced_eq ha, hu]
      exact if_pos rfl
    · refine exec_punchArrival_none fun ha => ?_
      rw [Slot.arrives_eq] at ha
      split at ha
      · next b p k hu =>
        have hk := (h b p k).1 hu
        have hend := of_decide_eq_true ha
        omega
      · next b p k hu =>
        have hk := (h b p k).2 hu
        have hend := of_decide_eq_true ha
        omega
      · exact nomatch ha
  · intro u v len use arrives
    have harrives : (fun t => u.egress[t].arrives) = arrives := funext fun t => Slot.arrives_eq _
    have hm := s.frameMoves_reslot src
    have hreport : (s.frameMoves src).report = u.report.setPunches arrives (List.finRange 128) := by
      rw [hm, ← harrives]
    refine ⟨hreport, fun t => ⟨?_, fun hsteer => ?_⟩⟩
    · have hv : v.egress = (s.frameMoves src).egress := (State.computed_parts (s.frameMoves src) src).2.2.2.2.1
      rw [hv, hm]
      exact (Vector.getElem_ofFn t.isLt).trans
        (congrArg (fun use => ({ u.egress[t] with use := use } : Slot)) (Slot.advanced_eq (Slot.arrives_eq _)))
    · have hu : u.report.notices[(4 : Fin 8)].steer = .none := by
        rw [s.frameEvents_notices src]
        exact hsteer
      obtain ⟨hn, hsums⟩ := State.computeFrame_sparesClass (c := 4) (by decide) (by decide) (s.frameMoves src) src
      obtain ⟨_, hsweep⟩ :=
        State.sweepVisits_sparesClass (c := 4) (by decide) (by decide) ((s.frameMoves src).computeFrame src)
      have hm' : (s.frameMoves src).report.notices[(4 : Fin 8)].steer = .none := by
        rw [hreport, Report.setPunches_notices]
        exact hu
      have hitems : v.report.items[(4 : Fin 8)] = (s.frameMoves src).report.items[(4 : Fin 8)] :=
        (hsweep (by rw [hn]; exact hm')).trans (hsums hm')
      rw [hitems, hreport, Report.setPunches_items _ _ _ hu]
      simp only [List.mem_finRange, true_and]

end Sys2Proof.Machine
end

section
namespace Sys2Proof.Machine

/-! ### What each operation makes of a slot in order (R120) -/

/-- R122, R123, R125: a request keeps the position, 0 being L where it is an arrival at once. -/
theorem Slot.ok_requested {t : Slot} (h : t.ok) (into : Bool) : ({ t with use := t.requested into } : Slot).ok := by
  obtain ⟨use, cls⟩ := t
  cases use with
  | punch b p state k =>
    cases state with
    | replay =>
      obtain rfl : k = 0 := h
      cases into with
      | true =>
        change (⟨if rampLen cls = 0 then .punch b p .live 0 else .punch b p .toLive 0, cls⟩ : Slot).ok
        split
        · next h0 => exact h0.symm
        · next h0 => exact ⟨Nat.pos_of_ne_zero h0, Nat.zero_le _⟩
      | false => exact rfl
    | live =>
      obtain rfl : k = rampLen cls := h
      cases into with
      | true => exact rfl
      | false =>
        change (⟨if rampLen cls = 0 then .punch b p .replay _ else .punch b p .toReplay _, cls⟩ : Slot).ok
        split
        · next h0 => exact h0
        · next h0 => exact ⟨Nat.pos_of_ne_zero h0, le_rfl⟩
    | toLive => cases into <;> exact h
    | toReplay => cases into <;> exact h
  | _ => trivial

/-- R124: a step keeps a moving slot between 0 and L, and an arrival stands at one of them. -/
theorem Slot.ok_advanced {t : Slot} (h : t.ok) : ({ t with use := t.advanced } : Slot).ok := by
  obtain ⟨use, cls⟩ := t
  cases use with
  | punch b p state k =>
    cases state with
    | replay => exact h
    | live => exact h
    | toLive =>
      obtain ⟨hlen, hk⟩ : 0 < rampLen cls ∧ k ≤ rampLen cls := h
      rw [Slot.advanced_eq rfl]
      dsimp only
      split
      · exact rfl
      · refine ⟨hlen, ?_⟩
        change (if k < rampLen cls then k + 1 else k) ≤ rampLen cls
        split <;> omega
    | toReplay =>
      obtain ⟨hlen, hk⟩ : 0 < rampLen cls ∧ k ≤ rampLen cls := h
      rw [Slot.advanced_eq rfl]
      dsimp only
      split
      · exact rfl
      · exact ⟨hlen, (Nat.sub_le k 1).trans hk⟩
  | _ => trivial

theorem Slot.ok_settle {t : Slot} (h : t.ok) : t.settle.ok := by
  obtain ⟨use, cls⟩ := t
  cases use with
  | punch b p state k =>
    cases state with
    | replay => exact h
    | live => exact h
    | toLive => exact rfl
    | toReplay => exact rfl
  | _ => trivial

/-- R114, R115: a record spells a PUNCH slot in REPLAY at 0 or a slot of another kind. -/
theorem Slot.ok_of_slotUse? {kind idx rep : Nat} {u : SlotUse} (h : slotUse? kind idx rep = some u) (cls : Fin 8) :
    (⟨u, cls⟩ : Slot).ok := by
  unfold slotUse? at h
  split at h
  · cases h
    trivial
  · obtain ⟨_, _, rfl⟩ := Option.map_eq_some_iff.1 h
    trivial
  · obtain ⟨_, _, rfl⟩ := Option.map_eq_some_iff.1 h
    trivial
  · simp only [Option.bind_eq_bind, Option.bind_eq_some_iff] at h
    obtain ⟨_, _, _, _, hu⟩ := h
    cases hu
    exact rfl
  · exact nomatch h

/-- R126: a slot that stays in LIVE stands at the length of its class after the write. -/
theorem Slot.ok_rewritten {t : Slot} (h : t.ok) {u : SlotUse} {cls : Fin 8} (hu : (⟨u, cls⟩ : Slot).ok) :
    (t.rewritten u cls).ok := by
  unfold Slot.rewritten
  split
  · next hlive =>
    unfold Slot.ok at h
    rw [hlive] at h
    change (if cls = t.cls then _ else rampLen cls) = rampLen cls
    split
    · next hc =>
      rw [hc]
      exact h
    · rfl
  · exact hu

/-! ### The egress map, operation by operation -/

theorem PunchOk.of_egress {s t : State} (hs : PunchOk s) (h : t.egress = s.egress) : PunchOk t := fun i => by
  rw [h]
  exact hs i

theorem PunchOk.setSlot {s t : State} (hs : PunchOk s) {i : Fin 128} {x : Slot} (hx : x.ok)
    (h : t.egress = s.egress.set i x) : PunchOk t := by
  unfold PunchOk
  rw [h]
  exact forall_getElem_set hs i hx

theorem PunchOk.punchRequest {s : State} (hs : PunchOk s) (i : Fin 128) (into : Bool) : PunchOk (s.punchRequest i into) :=
  hs.setSlot (Slot.ok_requested (hs i) into) rfl

theorem PunchOk.advanceSlot {s : State} (hs : PunchOk s) (i : Fin 128) : PunchOk (s.advanceSlot i) :=
  hs.setSlot (Slot.ok_advanced (hs i)) rfl

theorem PunchOk.applyMove {s : State} (hs : PunchOk s) (m : Move) : PunchOk (s.applyMove m) := by
  cases m with
  | punchIn i =>
    unfold State.applyMove
    dsimp only
    split
    · exact hs.punchRequest i true
    · exact hs
  | punchOut i =>
    unfold State.applyMove
    dsimp only
    split
    · exact hs.punchRequest i false
    · exact hs
  | xpTarget r c code n =>
    rw [State.applyMove_xpTarget]
    split <;> exact hs
  | _ => exact hs

theorem PunchOk.applyDue (n : Nat) {s : State} (hs : PunchOk s) : PunchOk (State.applyDue n s) := by
  induction n generalizing s with
  | zero => exact hs
  | succ n ih =>
    unfold State.applyDue
    split
    · exact hs
    · next e rest _ =>
      split
      · exact hs
      · split
        · exact hs
        · obtain ⟨_, h⟩ := State.countDeferred_touches ({ s with queue := rest }.applyMove e.move) e.due
          refine ih ?_
          rw [h]
          exact PunchOk.applyMove (s := { s with queue := rest }) hs e.move

theorem PunchOk.frameEvents {s : State} (hs : PunchOk s) (src : FrameSource) : PunchOk (s.frameEvents src) := by
  have htrack : PunchOk (s.frameStart.track src) := by
    obtain ⟨_, _, _, _, h1⟩ := State.frameStart_touches s
    obtain ⟨_, _, _, h2⟩ := State.track_touches s.frameStart src
    refine hs.of_egress ?_
    rw [h2, h1]
  unfold State.frameEvents State.automate
  split
  · exact (htrack.applyDue appliedPerFrame).of_egress rfl
  · exact htrack

/-- A frame makes the punch advance of every slot (R124). -/
theorem PunchOk.engineFrame {s : State} (hs : PunchOk s) (src : FrameSource) : PunchOk (s.engineFrame src) := by
  have hmoves : PunchOk (s.frameMoves src) := fun t => by
    rw [State.frameMoves_reslot]
    simp only [Fin.getElem_fin, Vector.getElem_ofFn]
    exact Slot.ok_advanced (hs.frameEvents src t)
  exact hmoves.of_egress (State.computed_parts (s.frameMoves src) src).2.2.2.2.1

/-! ### Commands (R158) -/

theorem PunchOk.putSlot {s : State} (hs : PunchOk s) (i : Fin 128) (kind idx rep cls : Nat) :
    (s.putSlot i kind idx rep cls).Leaves PunchOk :=
  .ranged trivial fun _ hu => .ranged trivial fun n _ =>
    .ok (hs.setSlot (Slot.ok_rewritten (hs i) (Slot.ok_of_slotUse? hu n)) rfl)

/-- Of the records only those of EGRESS reach the slots (R115). -/
theorem PunchOk.writeRecord {s : State} (hs : PunchOk s) (space : Fin 8) (idx : Nat) (o : List Octet) :
    (s.writeRecord space idx o).Leaves PunchOk := by
  unfold State.writeRecord
  split
  · exact .ranged trivial fun _ _ => .ranged trivial fun _ _ => .ok hs
  · exact .ranged trivial fun _ _ => .ranged trivial fun _ _ => .ite (fun _ => .ok hs) fun _ => .error trivial
  · exact .ranged trivial fun _ _ => .ranged trivial fun _ _ => .ok hs
  · exact .ranged trivial fun _ _ => .ranged trivial fun _ _ => .ok hs
  · exact .ranged trivial fun _ _ => .ranged trivial fun _ _ => .ite (fun _ => .ok hs) fun _ => .error trivial
  · exact .ranged trivial fun i _ => .ite (fun _ => .error trivial) fun _ => hs.putSlot i _ _ _ _
  · exact .ranged trivial fun _ _ => .ranged trivial fun _ _ => .ok hs
  · exact .ranged trivial fun _ _ => .ranged trivial fun _ _ => .ok hs

theorem PunchOk.writeRecords (space : Fin 8) (idx : Nat) (recs : List (List Octet)) {s : State} (hs : PunchOk s) :
    PunchOk (State.writeRecords space idx recs s).state := by
  induction recs generalizing idx s with
  | nil => exact hs
  | cons o rest ih =>
    unfold State.writeRecords
    split
    · exact hs
    · next s1 h1 => exact ih (idx + 1) ((hs.writeRecord space idx o).2 s1 h1)

theorem PunchOk.doWriteTable {s : State} (hs : PunchOk s) (p : List Octet) : PunchOk (doWriteTable p s).state := by
  unfold Machine.doWriteTable
  split
  · exact hs
  · split
    · exact hs
    · next space _ =>
      dsimp only
      split
      · exact hs
      · obtain ⟨_, _, _, _, _, h⟩ := State.afterWrite_touches s
          (State.writeRecords space (p.getD 1 0).toNat (records (recordSize space) (p.drop 2)) s).state space
          (p.getD 1 0).toNat (State.writeRecords space (p.getD 1 0).toNat (records (recordSize space) (p.drop 2)) s).count
        dsimp only [Reply.counted]
        rw [h]
        exact hs.writeRecords space (p.getD 1 0).toNat (records (recordSize space) (p.drop 2))

theorem PunchOk.writeOneField {s : State} (hs : PunchOk s) (space idx field : Nat) (v : Int) :
    (s.writeOneField space idx field v).Leaves PunchOk := by
  unfold State.writeOneField
  split
  · refine .ranged trivial fun _ _ => ?_
    split
    · exact .ok hs
    · exact .ranged trivial fun _ _ => .ok hs
    · exact .ranged trivial fun _ _ => .ok hs
    · exact .ranged trivial fun _ _ => .ok hs
    · exact .ranged trivial fun _ _ => .ok hs
    · exact .error trivial
  · refine .ranged trivial fun _ _ => ?_
    split
    · exact .ranged trivial fun _ _ => .ite (fun _ => .ok hs) fun _ => .error trivial
    · exact .ok hs
    · exact .ranged trivial fun _ _ => .ok hs
    · exact .ranged trivial fun _ _ => .ok hs
    · exact .error trivial
  · refine .ranged trivial fun _ _ => ?_
    split
    · exact .ok hs
    · exact .ranged trivial fun _ _ => .ok hs
    · exact .error trivial
  · refine .ranged trivial fun i _ => .ite (fun _ => .error trivial) fun _ => .ranged trivial fun _ _ => ?_
    dsimp only
    split
    · exact hs.putSlot i _ _ _ _
    · exact hs.putSlot i _ _ _ _
    · exact hs.putSlot i _ _ _ _
    · exact hs.putSlot i _ _ _ _
    · exact .error trivial
  · exact .ite (fun _ => .error trivial) fun _ => .error trivial

theorem PunchOk.doWriteField {s : State} (hs : PunchOk s) (p : List Octet) : PunchOk (doWriteField p s).state := by
  unfold Machine.doWriteField
  split
  · exact hs
  · next s1 h1 => exact (hs.writeOneField _ _ _ _).2 s1 h1

theorem State.gainCells_egress (n : Fin 8) (l : List Int) (s : State) : (State.gainCells n l s).1.egress = s.egress := by
  induction l generalizing s with
  | nil => rfl
  | cons code rest ih =>
    refine (ih (s.gainCell n code)).trans ?_
    unfold State.gainCell
    split <;> rfl

theorem State.readCells_egress (n : Nat) (s : State) : (State.readCells n s).1.egress = s.egress := by
  induction n generalizing s with
  | zero => rfl
  | succ n ih => exact ih s.stepWindow

theorem PunchOk.takeEvents (l : List (List Octet)) (n : Nat) {s : State} (hs : PunchOk s) :
    PunchOk (State.takeEvents l n s).state := by
  induction l generalizing n s with
  | nil => exact hs
  | cons o rest ih =>
    unfold State.takeEvents
    split
    · exact hs
    · next e _ =>
      split
      · exact ih _ (s := s.applyLate e) ((hs.applyMove e.move).of_egress rfl)
      · split
        · exact ih _ (s := { s with queue := insertEvent e s.queue }) hs
        · exact hs

theorem PunchOk.punchRun {s : State} (hs : PunchOk s) (first count : Nat) (into : Bool) :
    PunchOk (s.punchRun first count into) := fun t => by
  rw [State.punchRun_eq, State.foldl_reslot_egress _ _ _ _ (slotRun_nodup _ _)]
  split
  · exact Slot.ok_requested (hs t) into
  · exact hs t

theorem PunchOk.engineReset {s : State} (hs : PunchOk s) : PunchOk s.engineReset := fun t => by
  simp only [State.engineReset, Fin.getElem_fin, mapAll_getElem]
  exact Slot.ok_settle (hs t)

/-- Of the commands, WRITE_TABLE, WRITE_FIELD, QUEUE_EVENTS, PUNCH and ENGINE_RESET reach the egress map. -/
theorem PunchOk.doCommand {s : State} (hs : PunchOk s) (k : Nat) (p : List Octet) : PunchOk (doCommand k p s).state := by
  unfold Machine.doCommand
  split
  · exact hs
  · unfold doReadTable
    split
    · exact hs
    · dsimp only
      split <;> exact hs.of_egress rfl
  · exact hs.doWriteTable p
  · exact hs.doWriteField p
  · unfold doSetWindow
    split <;> exact hs.of_egress rfl
  · unfold doWriteGains
    split
    · exact hs
    · split
      · exact hs
      · exact hs.of_egress (State.gainCells_egress _ _ s)
  · unfold doReadGains
    dsimp only
    split
    · exact hs.of_egress (State.readCells_egress _ s)
    · exact hs
  · unfold doMatrixClear
    split
    · exact hs
    · split <;> exact hs.of_egress rfl
  · exact hs.takeEvents _ _
  · exact hs.of_egress rfl
  · unfold doPunch
    dsimp only
    split
    · exact hs
    · split
      · exact hs
      · exact hs.punchRun _ _ _
  · exact hs
  · unfold doClearFlags
    split <;> exact hs.of_egress rfl
  · unfold doTestAndClear
    split <;> exact hs.of_egress rfl
  · unfold doReadCounters
    dsimp only
    split
    · split
      · exact hs
      · dsimp only [Reply.withData]
        split <;> exact hs.of_egress rfl
    · exact hs
  · exact hs.engineReset
  · exact hs

theorem PunchOk.execute {s : State} (hs : PunchOk s) (m : Message) : PunchOk (s.execute m) := by
  have hrun : PunchOk (runMessage m s).state := by
    unfold runMessage
    split
    · exact hs
    · split
      · exact hs
      · exact hs.doCommand _ _
  exact hrun

theorem PunchOk.takeMessage {s : State} (hs : PunchOk s) : PunchOk s.takeMessage := by
  unfold State.takeMessage
  split
  · exact hs
  · next m rest _ =>
    split
    · exact PunchOk.execute (s := { s with commands := rest }) hs m
    · exact hs

theorem PunchOk.takeMessages {s : State} (hs : PunchOk s) (n : Nat) : PunchOk (State.takeMessages n s) :=
  State.takeMessages_keeps (P := PunchOk) (fun _ => PunchOk.takeMessage) n s hs

theorem PunchOk.submit {s : State} (hs : PunchOk s) (m : Message) : PunchOk (s.submit m) := by
  obtain ⟨_, _, h⟩ := State.joinMessage_touches s m
  exact PunchOk.takeMessages (hs.of_egress (by rw [h])) _

/-! ### The rows of the table -/

theorem PunchOk.endEvent {s : State} (hs : PunchOk s) (l : Link) (n : Nat) (src : FrameSource) : PunchOk (s.endEvent l n src) :=
  State.endEvent_keeps (P := PunchOk) src (fun _ => PunchOk.takeMessage) (fun _ _ h => h.engineFrame src) s l n hs

theorem State.takeFrame_egress (s : State) (l : Link) (f : LinkFrame) (dt : Nat) : (s.takeFrame l f dt).egress = s.egress := by
  obtain ⟨_, _, _, h3⟩ := State.readLane_touches ((s.receive l f).noteArrival l s.clock.state dt) l f.lane
  obtain ⟨_, h2⟩ := State.noteArrival_touches (s.receive l f) l s.clock.state dt
  obtain ⟨_, _, _, _, _, h1⟩ := State.receive_touches s l f
  rw [State.takeFrame, h3, h2, h1]

theorem PunchOk.badEvent {s : State} (hs : PunchOk s) (l : Link) (dt : Nat) : PunchOk (s.badEvent l dt) := by
  unfold State.badEvent
  split
  · exact hs
  · refine PunchOk.endEvent (hs.of_egress ?_) l _ _
    obtain ⟨_, _, h3⟩ := State.breakLane_touches ((s.failFrame l true).noteArrival l s.clock.state dt) l (s.link l).state
    obtain ⟨_, h2⟩ := State.noteArrival_touches (s.failFrame l true) l s.clock.state dt
    obtain ⟨_, _, _, _, _, h1⟩ := State.failFrame_touches s l true
    rw [h3, h2, h1]

theorem PunchOk.missingEvent {s : State} (hs : PunchOk s) (l : Link) : PunchOk (s.missingEvent l) := by
  unfold State.missingEvent
  split
  · exact hs
  · refine PunchOk.endEvent (hs.of_egress ?_) l _ _
    obtain ⟨_, _, h3⟩ := State.breakLane_touches ((s.failFrame l false).noteMissed l) l (s.link l).state
    obtain ⟨_, h2⟩ := State.noteMissed_touches (s.failFrame l false) l
    obtain ⟨_, _, _, _, _, h1⟩ := State.failFrame_touches s l false
    rw [h3, h2, h1]

/-- Every row of the table keeps the punch positions. -/
theorem PunchOk.exec {s t : State} (hs : PunchOk s) (c : Instr) (h : exec c s = .next t) : PunchOk t := by
  cases c with
  | passingFrame l o dt n =>
    rw [Machine.exec, execPassingFrame] at h
    have htaken := hs.takeMessages n.early
    split at h
    · next f _ =>
      cases h
      exact PunchOk.endEvent (htaken.of_egress (State.takeFrame_egress _ l f dt)) l _ _
    · cases h
      exact htaken.badEvent l dt
  | badFrame l dt =>
    cases h
    exact hs.badEvent l dt
  | missingFrame l =>
    cases h
    exact hs.missingEvent l
  | oscillatorPeriod =>
    cases h
    exact State.periodEvent_keeps (P := PunchOk) (fun _ => PunchOk.takeMessage) (fun _ _ h => h.engineFrame .oscillator) s hs
  | startUpReset =>
    cases h
    intro i
    rw [State.reset_egress]
    trivial
  | rampCompletion r c =>
    rw [Machine.exec, execRampCompletion] at h
    split at h
    · cases h
      split <;> exact hs
    · cases h
      exact hs
  | punchArrival i =>
    cases h
    split
    · exact hs.advanceSlot i
    · exact hs
  | sweepCompletion =>
    cases h
    split
    · obtain ⟨_, _, _, h⟩ := State.sweepVisits_touches s
      exact hs.of_egress (by rw [h])
    · exact hs
  | coalescingTimerExpiry =>
    rw [Machine.exec, execCoalescingTimerExpiry] at h
    split at h
    · cases h
      split <;> exact hs
    · cases h
      exact hs
  | noticeComposition =>
    cases h
    exact hs
  | _ =>
    cases h
    exact hs.submit _

/-- Settles O58: every operation that reaches the egress map turns its slots by `Slot.requested`, `Slot.advanced`,
`Slot.rewritten` or `Slot.settle`, each of which keeps `Slot.ok`. -/
theorem punchPositionsKept : Obligations.PunchPositionsKept := by
  intro s t hs h
  unfold Machine.step at h
  split at h
  · cases h
    exact hs.takeMessage
  · next c rest _ => exact PunchOk.exec (s := { s with pending := rest }) hs c h

end Sys2Proof.Machine
end

section
namespace Sys2Proof.Machine

/-! ### The low mark (R148) -/

@[simp] theorem Report.addCounts_control (r : Report) (n : Fin 84) (k : Nat) : (r.addCounts n k).control = r.control :=
  (Report.addCounts_same r n k).2.1

/-- R148: the judgement of a removal, on a mark that stands. -/
theorem State.judgeLow_at_mark {s : State} {mark : Nat} (h : s.report.control.lowMark = mark) (before : Nat) :
    s.judgeLow before =
      if mark < before ∧ s.queue.length ≤ mark then { s with report := s.report.setItem .low } else s := by
  unfold State.judgeLow
  rw [h]
  split <;> rfl

/-! ### FLUSH_QUEUE (R149) -/

/-- A queue that is emptied falls through the low mark whenever it stood above it. -/
theorem State.flush_judgeLow (s : State) :
    s.flush.judgeLow s.queue.length =
      { s with
        queue := []
        report :=
          if s.report.control.lowMark < s.queue.length then (s.report.addCounts 17 s.queue.length).setItem .low
          else s.report.addCounts 17 s.queue.length } := by
  have hmark : s.flush.report.control.lowMark = s.report.control.lowMark :=
    congrArg _ (Report.addCounts_control s.report flushedCount s.queue.length)
  have hempty : s.flush.queue.length ≤ s.report.control.lowMark := Nat.zero_le _
  rw [State.judgeLow_at_mark hmark]
  simp only [hempty, and_true]
  split <;> rfl

/-- Settles O35: the command is a flush and one judgement of the low mark. -/
theorem flushQueueEmptiesQueue : Obligations.FlushQueueEmptiesQueue := by
  intro s tag h
  refine exec_reply h (k := 0x0A#8) rfl (by decide) rfl ?_
  exact congrArg (Reply.only · .ok) s.flush_judgeLow

end Sys2Proof.Machine
end
section
namespace Sys2Proof.Machine

/-! ### The ten octets of an event record (R136, R171) -/

theorem onOff?_eq_some_iff {o : Octet} {on : Bool} : onOff? o = some on ↔ o.toNat = if on then 1 else 0 := by
  have h0 : o = 0#8 ↔ o.toNat = 0 := BitVec.toNat_inj.symm
  have h1 : o = 1#8 ↔ o.toNat = 1 := BitVec.toNat_inj.symm
  unfold onOff?
  cases on <;>
    simp only [h0, h1, if_true, if_false, Bool.false_eq_true] <;>
    split_ifs <;>
    simp only [Option.some.injEq, reduceCtorEq, true_iff, false_iff] <;>
    omega

theorem signed16_octets16 (x : BitVec 16) : signed16 (x.extractLsb' 8 8) (x.extractLsb' 0 8) = x.toInt :=
  congrArg BitVec.toInt (word16_octets16 x)

/-- The numbers of a record that spells move m (R136, R171); a kind that has no second index leaves that octet free, and a
punch the code and the last octet. -/
def Move.SpelledBy (kind i1 i2 : Nat) (x : Int) (last : Nat) : Move → Prop
  | .xpTarget r c code n => kind = 1 ∧ i1 = r.val ∧ i2 = c.val ∧ last = n.val ∧ code = x
  | .srcTrim i code n => kind = 2 ∧ i1 = i.val ∧ last = n.val ∧ code = x
  | .groupTrim g code n => kind = 3 ∧ i1 = g.val ∧ last = n.val ∧ code = x
  | .busLevel b code n => kind = 4 ∧ i1 = b.val ∧ last = n.val ∧ code = x
  | .srcMute i on => kind = 5 ∧ i1 = i.val ∧ last = if on then 1 else 0
  | .busMute b on => kind = 6 ∧ i1 = b.val ∧ last = if on then 1 else 0
  | .punchIn t => kind = 7 ∧ i1 = t.val
  | .punchOut t => kind = 8 ∧ i1 = t.val

section
variable {kind i1 i2 hi lo last : Octet} {m : Move}

theorem Move.SpelledBy.of_readMove (h : readMove kind i1 i2 hi lo last = some m) :
    m.SpelledBy kind.toNat i1.toNat i2.toNat (clampCode (signed16 hi lo)) last.toNat := by
  unfold readMove at h
  dsimp only at h
  split at h <;>
    simp only [Option.bind_eq_bind, Option.bind_eq_some_iff, index?_eq_some_iff, onOff?_eq_some_iff, Option.some.injEq,
      reduceCtorEq] at h
  case h_1 hk =>
    obtain ⟨_, h1, _, h2, _, h3, rfl⟩ := h
    exact ⟨hk, h1, h2, h3, rfl⟩
  case h_2 hk | h_3 hk | h_4 hk =>
    obtain ⟨_, h1, _, h3, rfl⟩ := h
    exact ⟨hk, h1, h3, rfl⟩
  case h_5 hk | h_6 hk =>
    obtain ⟨_, h1, _, h3, rfl⟩ := h
    exact ⟨hk, h1, h3⟩
  case h_7 hk | h_8 hk =>
    obtain ⟨_, h1, rfl⟩ := h
    exact ⟨hk, h1⟩

theorem Move.SpelledBy.readMove
    (h : m.SpelledBy kind.toNat i1.toNat i2.toNat (clampCode (signed16 hi lo)) last.toNat) :
    readMove kind i1 i2 hi lo last = some m := by
  unfold Machine.readMove
  cases m with
  | xpTarget r c code n =>
    obtain ⟨hk, h1, h2, h3, rfl⟩ := h
    simp only [hk, h1, h2, h3, index?_val, Option.bind_eq_bind, Option.bind_some]
  | srcMute i on | busMute i on =>
    obtain ⟨hk, h1, h3⟩ := h
    simp only [hk, h1, onOff?_eq_some_iff.2 h3, index?_val, Option.bind_eq_bind, Option.bind_some]
  | punchIn i | punchOut i =>
    obtain ⟨hk, h1⟩ := h
    simp only [hk, h1, index?_val, Option.bind_eq_bind, Option.bind_some]
  | _ =>
    obtain ⟨hk, h1, h3, rfl⟩ := h
    simp only [hk, h1, h3, index?_val, Option.bind_eq_bind, Option.bind_some]

/-- A record's octets read as the move whose numbers they are. -/
theorem readMove_eq_some_iff :
    readMove kind i1 i2 hi lo last = some m ↔
      m.SpelledBy kind.toNat i1.toNat i2.toNat (clampCode (signed16 hi lo)) last.toNat :=
  ⟨.of_readMove, Move.SpelledBy.readMove⟩

end

/-- A number that no record spelling a move has in its place (R138): of the kind, of an index, of the class or of the on or off
setting. -/
theorem Move.SpelledBy.in_range {kind i1 i2 last : Nat} {x : Int} {m : Move} (h : m.SpelledBy kind i1 i2 x last) :
    ¬((kind = 0 ∨ 8 < kind) ∨ (kind = 1 ∧ 63 < i2) ∨ (kind = 2 ∧ 191 < i1) ∨ (kind = 3 ∧ 31 < i1) ∨
      (kind = 4 ∧ 63 < i1) ∨ (kind = 5 ∧ 191 < i1) ∨ (kind = 6 ∧ 63 < i1) ∨ (7 ≤ kind ∧ 127 < i1) ∨
      (1 ≤ kind ∧ kind ≤ 4 ∧ 7 < last) ∨ (5 ≤ kind ∧ kind ≤ 6 ∧ 1 < last)) := by
  cases m with
  | srcMute i on | busMute i on =>
    obtain ⟨hk, h1, h3⟩ := h
    have hlast : last ≤ 1 := by split at h3 <;> omega
    omega
  | _ =>
    simp only [Move.SpelledBy] at h
    omega

/-- The due position stands in the first four octets, the code in the eighth and ninth. -/
theorem readEvent_record (due : Position) (kind i1 i2 last : Octet) (x : BitVec 16) :
    readEvent (octets32 due ++ [kind, i1, i2] ++ octets16 x ++ [last]) =
      (readMove kind i1 i2 (x.extractLsb' 8 8) (x.extractLsb' 0 8) last).map fun m => ⟨due, m⟩ := by
  have hdue : word32 (due.extractLsb' 24 8) (due.extractLsb' 16 8) (due.extractLsb' 8 8) (due.extractLsb' 0 8) = due :=
    word32_octets32 due
  exact congrArg (fun p => (readMove kind i1 i2 _ _ last).map fun m => (⟨p, m⟩ : AutoEvent)) hdue

/-- A record spells the event of its due position and of the move its numbers spell, and no other. -/
theorem readEvent_record_eq_some_iff {kind i1 last : Nat} (hk : kind < 256) (h1 : i1 < 256) (hl : last < 256)
    (due : Position) (i2 : Octet) (x : BitVec 16) (e : AutoEvent) :
    readEvent (octets32 due ++ [octet kind, octet i1, i2] ++ octets16 x ++ [octet last]) = some e ↔
      e.due = due ∧ e.move.SpelledBy kind i1 i2.toNat (clampCode x.toInt) last := by
  have hspell (m : Move) : readMove (octet kind) (octet i1) i2 (x.extractLsb' 8 8) (x.extractLsb' 0 8) (octet last) = some m ↔
      m.SpelledBy kind i1 i2.toNat (clampCode x.toInt) last := by
    rw [readMove_eq_some_iff, toNat_octet hk, toNat_octet h1, toNat_octet hl, signed16_octets16]
  rw [readEvent_record, Option.map_eq_some_iff]
  constructor
  · rintro ⟨m, hm, rfl⟩
    exact ⟨rfl, (hspell m).1 hm⟩
  · rintro ⟨rfl, hm⟩
    exact ⟨e.move, (hspell e.move).2 hm, rfl⟩

/-- Settles O32: the numbers of each record spell its move, and those of a refused record spell none. -/
theorem eventRecordLayout : Obligations.EventRecordLayout := by
  intro due i2 x n on code record
  have reads {kind i1 last : Nat} {second : Octet} {m : Move} (hk : kind < 256) (h1 : i1 < 256) (hl : last < 256)
      (h : m.SpelledBy kind i1 second.toNat code last) : record kind i1 second last = some ⟨due, m⟩ :=
    (readEvent_record_eq_some_iff hk h1 hl ..).2 ⟨rfl, h⟩
  have hn : n.val < 256 := by omega
  have hon : (if on then 1 else 0) < 256 := by split <;> decide
  refine ⟨fun r c => reads (by decide) r.isLt hn ⟨rfl, rfl, toNat_octet (by omega), rfl, rfl⟩,
    fun i => reads (by decide) (by omega) hn ⟨rfl, rfl, rfl, rfl⟩,
    fun g => reads (by decide) (by omega) hn ⟨rfl, rfl, rfl, rfl⟩,
    fun b => reads (by decide) (by omega) hn ⟨rfl, rfl, rfl, rfl⟩,
    fun i => reads (by decide) (by omega) hon ⟨rfl, rfl, rfl⟩,
    fun b => reads (by decide) (by omega) hon ⟨rfl, rfl, rfl⟩,
    fun t => reads (by decide) (by omega) hn ⟨rfl, rfl⟩,
    fun t => reads (by decide) (by omega) hn ⟨rfl, rfl⟩, ?_⟩
  intro kind i1 last hk h1 hl hrefused
  refine Option.eq_none_iff_forall_ne_some.2 fun e he => ?_
  exact ((readEvent_record_eq_some_iff hk h1 hl due i2 x e).1 he).2.in_range hrefused

end Sys2Proof.Machine
end

section
namespace Sys2Proof.Machine

/-! ### QUEUE_EVENTS, event by event (R137 to R140) -/

/-- R137: in an ordered queue an event takes its place behind every event due at or before it. -/
theorem insertEvent_eq_filter (e : AutoEvent) {l : List AutoEvent} (h : l.Pairwise fun f g => f.due ≤ g.due) :
    insertEvent e l =
      (l.filter fun f : AutoEvent => decide (f.due ≤ e.due)) ++ e ::
        l.filter fun f : AutoEvent => decide (e.due < f.due) := by
  induction l with
  | nil => rfl
  | cons f rest ih =>
    obtain ⟨hf, hrest⟩ := List.pairwise_cons.1 h
    unfold insertEvent
    split
    · next hle =>
      have hnot : ¬e.due < f.due := BitVec.not_lt.2 hle
      simp only [List.filter_cons, hle, hnot, decide_true, decide_false, if_true, Bool.false_eq_true, if_false, ih hrest,
        List.cons_append]
    · next hlt =>
      have hlater : ∀ g ∈ f :: rest, e.due < g.due := by
        rintro g hg
        rcases List.mem_cons.1 hg with rfl | hg
        · exact BitVec.not_le.1 hlt
        · have hfg : f.due ≤ g.due := hf g hg
          bv_omega
      rw [List.filter_eq_nil_iff.2 fun g hg => by simpa using hlater g hg,
        List.filter_eq_self.2 fun g hg => decide_eq_true (hlater g hg)]
      rfl

theorem State.late_iff (s : State) (e : AutoEvent) : s.late e ↔ s.tracker.isLate e.due = true := by
  unfold State.late Tracker.isLate
  split <;> exact decide_eq_true_iff.symm

section
variable {s t : State} {e : AutoEvent} {o : List Octet} (he : readEvent o = some e) (rest : List (List Octet)) (n : Nat)
include he

/-- R139, R140: an event that can be taken is, and those behind it are taken on the state it leaves. -/
theorem State.takeEvents_taken (hs : QueueOk s) (ht : s.EventTaken e t) :
    State.takeEvents (o :: rest) n s = State.takeEvents rest (n + 1) t := by
  rw [State.takeEvents, he]
  dsimp only
  rcases ht with ⟨hlate, rfl⟩ | ⟨hlate, hroom, rfl⟩
  · rw [if_pos ((s.late_iff e).1 hlate)]
    rfl
  · rw [if_neg (mt (s.late_iff e).2 hlate), if_pos (show s.queue.length < queueSize from hroom), insertEvent_eq_filter e hs.2]

/-- R140: an event not late that finds the queue full stops the command. -/
theorem State.takeEvents_full (hlate : ¬s.late e) (hfull : s.queue.length = 512) :
    State.takeEvents (o :: rest) n s = ⟨s, n, some (if n = 0 then .qfull else .partialDone)⟩ := by
  rw [State.takeEvents, he]
  dsimp only
  rw [if_neg (mt (s.late_iff e).2 hlate), if_neg (show ¬s.queue.length < queueSize from by rw [hfull]; decide)]

end

theorem State.takeEvents_range {o : List Octet} (ho : readEvent o = none) (rest : List (List Octet)) (n : Nat) (s : State) :
    State.takeEvents (o :: rest) n s = ⟨s, n, some .range⟩ := by
  rw [State.takeEvents, ho]

theorem QueueOk.eventTaken {s t : State} {e : AutoEvent} (hs : QueueOk s) (ht : s.EventTaken e t) : QueueOk t := by
  rcases ht with ⟨_, rfl⟩ | ⟨_, hroom, rfl⟩
  · unfold QueueOk
    dsimp only
    rwa [State.applyMove_queue]
  · unfold QueueOk
    dsimp only
    rw [← insertEvent_eq_filter e hs.2]
    exact ⟨(insertEvent_length e _).trans_le hroom, insertEvent_sorted e _ hs.2⟩

/-- The command stands at its n-th event once the n before it are taken, one after another. -/
theorem State.takeEvents_after {recs : List (List Octet)} {states : Nat → State} (hs : QueueOk (states 0)) (n : Nat)
    (hn : n ≤ recs.length)
    (htaken : ∀ j, j < n → ∃ e, readEvent (recs.getD j []) = some e ∧ (states j).EventTaken e (states (j + 1))) :
    State.takeEvents recs 0 (states 0) = State.takeEvents (recs.drop n) n (states n) ∧ QueueOk (states n) := by
  induction n with
  | zero => exact ⟨rfl, hs⟩
  | succ n ih =>
    obtain ⟨hbefore, hok⟩ := ih (Nat.le_of_succ_le hn) fun j hj => htaken j (Nat.lt_succ_of_lt hj)
    obtain ⟨e, he, ht⟩ := htaken n (Nat.lt_succ_self n)
    rw [List.getD_eq_getElem _ _ hn] at he
    refine ⟨?_, hok.eventTaken ht⟩
    rw [hbefore, List.drop_eq_getElem_cons hn, State.takeEvents_taken he _ n hok ht]

/-- QUEUE_EVENTS of one to five whole records is admitted and answers what its taking of them leaves (R158, R171). -/
theorem exec_queueEvents_reply {s : State} (h : s.ready) (tag : Octet) {recs : List (List Octet)} (h1 : 1 ≤ recs.length)
    (h5 : recs.length ≤ 5) (hlen : ∀ o ∈ recs, o.length = 10) {r : EventsTaken} (hr : State.takeEvents recs 0 s = r) :
    exec (.queueEvents tag recs.flatten) s =
      .next (r.state.respond 0x89#8 tag [(r.stop.getD .ok).octet, octet r.taken]) := by
  have hflat : recs.flatten.length = recs.length * 10 := by
    rw [List.length_flatten, List.sum_eq_card_nsmul _ 10 (by simpa using hlen), List.length_map, smul_eq_mul]
  have hl : lengthAllowed 9 recs.flatten.length = true := by
    simp only [lengthAllowed, hflat, Bool.and_eq_true, beq_iff_eq, decide_eq_true_eq]
    omega
  refine exec_reply h (k := 9#8) rfl (by decide) hl ?_
  change doQueueEvents recs.flatten s = _
  rw [doQueueEvents, records_flatten (by decide) recs hlen, hr]
  rfl

/-- Settles O33: by induction the command comes to its n-th event, and the cases are those of one event more. -/
theorem queueOneEvent : Obligations.QueueOneEvent := by
  intro s tag recs states n h hq h1 h5 hlen hn h0 htaken w answered
  subst h0
  obtain ⟨hafter, -⟩ := State.takeEvents_after hq n hn htaken
  have answer (stop : Option Status) (hstop : State.takeEvents (recs.drop n) n w = ⟨w, n, stop⟩) :
      answered (stop.getD .ok).octet :=
    exec_queueEvents_reply h tag h1 h5 hlen (hafter.trans hstop)
  have hdrop (hlt : n < recs.length) : recs.drop n = recs.getD n [] :: recs.drop (n + 1) := by
    rw [List.drop_eq_getElem_cons hlt, List.getD_eq_getElem _ _ hlt]
  refine ⟨fun hall => answer none ?_, fun hlt hnone => answer (some .range) ?_, fun e hlt he hlate hfull => ?_⟩
  · rw [hall, List.drop_length]
    rfl
  · rw [hdrop hlt, State.takeEvents_range hnone]
  · have hstop := answer (some (if n = 0 then .qfull else .partialDone)) <| by
      rw [hdrop hlt, State.takeEvents_full he _ n hlate hfull]
    rw [Option.getD_some, apply_ite Status.octet] at hstop
    exact hstop

end Sys2Proof.Machine
end

section
namespace Sys2Proof.Machine

/-! ### The tracker's jump (R133, R135) -/

theorem Tracker.expected_eq (t : Tracker) :
    t.expected =
      if t.rolling = false then some t.pos else if t.pos.toNat = 4294967295 then none else some (t.pos + 1) := by
  have hlast : t.pos = 0xFFFFFFFF#32 ↔ t.pos.toNat = 4294967295 := BitVec.toNat_inj.symm
  simp only [Tracker.expected, Bool.not_eq_true', hlast]

/-- R133, R135: a passing frame at another position than the expected one. -/
def Tracker.JumpsAt (t : Tracker) : FrameSource → Prop
  | .passing _ p _ => t.expected ≠ some p
  | .failed => False
  | .oscillator => False

theorem State.track_of_jump {s : State} {src : FrameSource} (h : s.tracker.JumpsAt src) :
    s.track src = { s with tracker := (s.track src).tracker }.jump := by
  cases src with
  | passing x p r =>
    simp only [State.track]
    rw [if_neg h]
    rfl
  | failed => exact h.elim
  | oscillator => exact h.elim

theorem State.track_of_not_jump {s : State} {src : FrameSource} (h : ¬s.tracker.JumpsAt src) :
    s.track src = { s with tracker := (s.track src).tracker } := by
  cases src with
  | passing x p r =>
    simp only [State.track]
    rw [if_pos (not_not.1 h)]
  | failed => rfl
  | oscillator => rfl

theorem State.jump_at_mark {s : State} {mark : Nat} (h : s.report.control.lowMark = mark) :
    s.jump =
      let emptied := { s with queue := [], report := (s.report.addCounts 17 s.queue.length).setItem .jump }
      if mark < s.queue.length ∧ emptied.queue.length ≤ mark then { emptied with report := emptied.report.setItem .low }
      else emptied := by
  refine State.judgeLow_at_mark (s := s.flush.setItem .jump) ?_ _
  rw [← h]
  exact congrArg Control.lowMark ((Report.setItem_control _ _).trans (Report.addCounts_control _ _ _))

/-! ### The automation application (R142 to R145) -/

/-- R145: a sweep in flight holds back an XP_TARGET. -/
def State.HoldsBack (s : State) (e : AutoEvent) : Prop := s.sweep ≠ .idle ∧ ∃ r c code n, e.move = .xpTarget r c code n

theorem State.holdsBack_iff (s : State) (e : AutoEvent) : s.HoldsBack e ↔ (e.move.isXpTarget && s.sweep.busy) = true := by
  have hsweep : s.sweep ≠ .idle ↔ s.sweep.busy = true := by cases s.sweep <;> simp [Sweep.busy]
  have hmove : (∃ r c code n, e.move = .xpTarget r c code n) ↔ e.move.isXpTarget = true := by
    cases e.move <;> simp [Move.isXpTarget]
  rw [State.HoldsBack, hsweep, hmove, Bool.and_eq_true, and_comm]

/-- R143, R144: the event at the head leaves the queue and is applied at the frame's position, deferred if it was due before. -/
def State.applyHead (pos : Position) (s : State) (e : AutoEvent) : State :=
  let w := { s with queue := s.queue.drop 1 }.applyMove e.move
  if e.due < pos then { w with report := (w.report.addCount 16).setItem .deferred } else w

theorem State.applyHead_leaves (pos : Position) (s : State) (e : AutoEvent) :
    (s.applyHead pos e).queue = s.queue.drop 1 ∧ (s.applyHead pos e).tracker = s.tracker ∧
      (s.applyHead pos e).sweep = s.sweep := by
  unfold State.applyHead
  dsimp only
  split <;> exact ⟨State.applyMove_queue _ _, State.applyMove_tracker _ _, State.applyMove_sweep _ _⟩

/-- R142, R145: the application of up to n events ends here. -/
theorem State.applyDue_stops {s : State}
    (h : ∀ e rest, s.queue = e :: rest → s.tracker.pos < e.due ∨ s.HoldsBack e) (n : Nat) : State.applyDue n s = s := by
  cases n with
  | zero => rfl
  | succ n =>
    unfold State.applyDue
    split
    · rfl
    · next e rest hq =>
      rcases h e rest hq with hdue | hheld
      · rw [if_pos hdue]
      · rw [if_pos ((s.holdsBack_iff e).1 hheld), ite_self]

theorem State.applyDue_head {s : State} {e : AutoEvent} {rest : List AutoEvent} (hq : s.queue = e :: rest)
    (hdue : e.due ≤ s.tracker.pos) (hheld : ¬s.HoldsBack e) (n : Nat) :
    State.applyDue (n + 1) s = State.applyDue n (s.applyHead s.tracker.pos e) := by
  have hpos : ({ s with queue := rest }.applyMove e.move).tracker.pos = s.tracker.pos :=
    congrArg Tracker.pos (State.applyMove_tracker _ _)
  rw [State.applyDue, hq]
  dsimp only
  rw [if_neg (BitVec.not_lt.2 hdue), if_neg (mt (s.holdsBack_iff e).2 hheld), State.countDeferred, hpos, State.applyHead, hq]
  rfl

/-- R142 to R145: the application takes the events at the head in their order, as far as each is due and not held back. -/
theorem State.applyDue_run (n : Nat) (s : State) : ∃ k, k ≤ n ∧
    (∀ e ∈ s.queue.take k, e.due ≤ s.tracker.pos ∧ ¬s.HoldsBack e) ∧
    (k < n → ∀ e rest, s.queue.drop k = e :: rest → s.tracker.pos < e.due ∨ s.HoldsBack e) ∧
    State.applyDue n s = (s.queue.take k).foldl (State.applyHead s.tracker.pos) s ∧
    (State.applyDue n s).queue = s.queue.drop k := by
  induction n generalizing s with
  | zero => exact ⟨0, le_rfl, by simp, by simp, rfl, rfl⟩
  | succ n ih =>
    by_cases hstop : ∀ e rest, s.queue = e :: rest → s.tracker.pos < e.due ∨ s.HoldsBack e
    · have hnone := State.applyDue_stops hstop (n + 1)
      exact ⟨0, Nat.zero_le _, by simp, fun _ => hstop, hnone, congrArg State.queue hnone⟩
    · push Not at hstop
      obtain ⟨e, rest, hq, hdue, hheld⟩ := hstop
      replace hdue : e.due ≤ s.tracker.pos := BitVec.not_lt.1 hdue
      obtain ⟨hqueue, htracker, hsweep⟩ := s.applyHead_leaves s.tracker.pos e
      obtain ⟨k, hk, hbefore, hafter, hrun, hleft⟩ := ih (s.applyHead s.tracker.pos e)
      simp only [State.HoldsBack, hqueue, htracker, hsweep, hq, List.drop_one, List.tail_cons] at hbefore hafter hrun hleft
      refine ⟨k + 1, Nat.succ_le_succ hk, ?_, fun hlt => ?_, ?_, ?_⟩
      · rw [hq, List.take_succ_cons]
        exact List.forall_mem_cons.2 ⟨⟨hdue, hheld⟩, hbefore⟩
      · rw [hq, List.drop_succ_cons]
        exact hafter (Nat.lt_of_succ_lt_succ hlt)
      · rw [State.applyDue_head hq hdue hheld, hrun, hq, List.take_succ_cons, List.foldl_cons]
      · rw [State.applyDue_head hq hdue hheld, hleft, hq, List.drop_succ_cons]

theorem State.automate_of_stopped {s : State} (h : s.tracker.rolling = false) : s.automate = s := by
  rw [State.automate, h]
  rfl

theorem State.automate_of_empty {s : State} (h : s.queue = []) : s.automate = s := by
  have hnone : State.applyDue appliedPerFrame s = s := State.applyDue_stops (fun e rest hq => nomatch h.symm.trans hq) _
  unfold State.automate
  rw [hnone, State.judgeLow_at_mark rfl, h]
  simp

/-! ### Automation in an engine frame -/

theorem Report.Lasts.sameTables (r : Report) : Report.Lasts 0 r.SameTables :=
  ⟨fun q i h => h.trans (q.setItem_same i).1, fun q n _ h => h.trans (q.addCount_same n)⟩

theorem State.applyDue_control (n : Nat) (s : State) : (State.applyDue n s).report.control = s.report.control := by
  obtain ⟨_, hcontrol, _⟩ :=
    ((Report.Lasts.sameTables s.report).mono (Nat.zero_le 16)).applyDue n (s := s) (.refl _)
  exact hcontrol

/-- Composition, timer and takes leave the CONTROL record and the notice block. -/
theorem State.frameStart_tables (s : State) :
    s.frameStart.report.control = s.report.control ∧ s.frameStart.report.notices = s.report.notices := by
  have lasts := Report.Lasts.sameTables s.afterWords
  have htimed : s.afterWords.SameTables s.afterWords.composeIfDue.lowerTimer :=
    (Report.composeIfDue_same _).1.trans (Report.lowerTimer_same _).1
  rw [State.frameStart_report]
  obtain ⟨hnotices, hcontrol, _⟩ := lasts.countDry s .d (lasts.countDry s .c (lasts.countDry s .b htimed))
  exact ⟨hcontrol, hnotices⟩

/-- The queue of an engine frame is the one its automation leaves. -/
theorem State.engineFrame_queue (s : State) (src : FrameSource) : (s.engineFrame src).queue = (s.frameEvents src).queue := by
  obtain ⟨_, _, hmoves⟩ := State.frameMoves_eq s src
  obtain ⟨_, _, _, _, hframe, _⟩ := State.computeFrame_sweepVisits (s.frameMoves src) src
  rw [State.engineFrame, hframe, hmoves]
  rfl

/-- Settles O48: the jump, the stopped frame and the rolling one are the branches of the tracker and of the automation
application, on the state that the start of the frame leaves. -/
theorem automationAtFrame : Obligations.AutomationAtFrame := by
  intro s src t u begun expected jump held applied mark low
  obtain ⟨hcontrol, hnotices⟩ := s.frameStart_tables
  have htracker : (s.frameStart.track src).tracker = t.tracker := (s.engineFrame_tracker src).symm
  have hmark : begun.report.control.lowMark = mark := congrArg Control.lowMark hcontrol
  have hjump : jump ↔ s.frameStart.tracker.JumpsAt src := by
    cases src with
    | passing x p r =>
      change expected ≠ some p ↔ s.tracker.expected ≠ some p
      rw [Tracker.expected_eq]
    | failed => exact Iff.rfl
    | oscillator => exact Iff.rfl
  have hstays (hno : ¬jump) : u = begun.automate := by
    change (s.frameStart.track src).automate = _
    rw [State.track_of_not_jump (mt hjump.2 hno), htracker]
  refine ⟨rfl, hcontrol, hnotices, s.engineFrame_queue src, fun hyes => ?_, fun hno hstopped => ?_, fun hno hrolling => ?_⟩
  · have hemptied : begun.jump.queue = [] := rfl
    calc u = begun.jump.automate := by
          change (s.frameStart.track src).automate = _
          rw [State.track_of_jump (hjump.1 hyes), htracker]
      _ = begun.jump := State.automate_of_empty hemptied
      _ = _ := State.jump_at_mark hmark
  · exact (hstays hno).trans (State.automate_of_stopped (s := begun) hstopped)
  · obtain ⟨k, hk, hbefore, hafter, hrun, hleft⟩ := State.applyDue_run appliedPerFrame begun
    have hu : u = (State.applyDue appliedPerFrame begun).judgeLow s.queue.length := by
      rw [hstays hno]
      exact if_pos hrolling
    refine ⟨k, hk, ?_, hbefore, hafter, ?_⟩
    · rw [s.engineFrame_queue src]
      exact (congrArg State.queue hu).trans hleft
    · rw [hu, State.judgeLow_at_mark ((congrArg Control.lowMark (State.applyDue_control _ _)).trans hmark), hrun]
      rfl

end Sys2Proof.Machine
end

section
namespace Sys2Proof.Machine

/-! ### Rows that hand on a message (R156, R158) -/

/-- A controller's row hands its message on (log entry 4). -/
theorem exec_of_messageOf {c : Instr} {m : Message} (h : messageOf c = some m) (s : State) :
    exec c s = .next (s.submit m) := by
  cases c <;> cases h <;> rfl

/-! ### Messages refused by their kind or their length (R158, R165, R171) -/

theorem runMessage_badKind {m : Message} (h : m.kind.toNat = 0 ∨ 16 < m.kind.toNat) (s : State) :
    runMessage m s = .only s .badKind := if_pos h

theorem runMessage_badLen {m : Message} (hk : 1 ≤ m.kind.toNat ∧ m.kind.toNat ≤ 16)
    (hl : lengthAllowed m.kind.toNat m.payload.length = false) (s : State) : runMessage m s = .only s .badLen := by
  rw [runMessage, if_neg (by omega), hl]
  rfl

/-- Settles O10: the kind is judged first, and nothing else is looked at. -/
theorem unknownKindAnsweredBadKind : Obligations.UnknownKindAnsweredBadKind := by
  intro s k tag p h hk
  have he : exec (.unknownCommandKind k tag p) s = .next (s.submit ⟨k, tag, p⟩) := rfl
  rw [he, s.submit_ready _ h, s.execute_reply s ⟨k, tag, p⟩ [0x07#8] (runMessage_badKind hk s)]
  rfl

section
variable {s : State} (h : s.ready) {c : Instr} {k tag : Octet} {p : List Octet}
  (hc : exec c s = .next (s.submit ⟨k, tag, p⟩)) (hk : 1 ≤ k.toNat ∧ k.toNat ≤ 16)
include h hc hk

theorem exec_badLen (hl : lengthAllowed k.toNat p.length = false) :
    exec c s = .next (s.respond (responseKind k) tag [0x08#8]) := by
  rw [hc, s.submit_ready _ h, s.execute_reply s ⟨k, tag, p⟩ [0x08#8] (runMessage_badLen hk hl s)]

/-- A kind that has one length alone. -/
theorem exec_badLen_of_ne {n : Nat} (hl : lengthAllowed k.toNat p.length = (p.length == n)) (hn : p.length ≠ n) :
    exec c s = .next (s.respond (responseKind k) tag [0x08#8]) :=
  exec_badLen h hc hk (hl.trans (beq_eq_false_iff_ne.2 hn))

end

/-- WRITE_TABLE of fewer than two octets (R165). -/
theorem doWriteTable_short {p : List Octet} (h : p.length < 2) (s : State) : doWriteTable p s = .only s .badLen := if_pos h

/-- WRITE_TABLE of no record, or of a part of one (R165). -/
theorem doWriteTable_uncut {p : List Octet} {space : Fin 8} (h2 : 2 ≤ p.length) (hs : (p.getD 0 0).toNat = space.val)
    (h : p.length = 2 ∨ (p.length - 2) % recordSize space ≠ 0) (s : State) : doWriteTable p s = .only s .badLen := by
  have hspace : index? 8 (p.getD 0 0).toNat = some space := by
    rw [hs]
    exact dif_pos space.isLt
  have hrecs : p.drop 2 = [] ∨ (p.drop 2).length % recordSize space ≠ 0 := by
    rw [List.length_drop]
    exact h.imp_left fun e => List.drop_eq_nil_of_le e.le
  rw [doWriteTable, if_neg (Nat.not_lt.2 h2), hspace]
  exact if_pos hrecs

/-- Settles O11: kind by kind, `lengthAllowed` is the table of R171, and WRITE_TABLE judges its own length (R165). -/
theorem wrongLengthAnsweredBadLen : Obligations.WrongLengthAnsweredBadLen := by
  intro s tag p h
  have table : doWriteTable p s = .only s .badLen → exec (.writeTable tag p) s = .next (s.respond 0x83#8 tag [0x08#8]) :=
    fun hr => exec_reply h (k := 3#8) rfl (by decide) rfl hr
  refine ⟨exec_badLen_of_ne h (k := 1#8) rfl (by decide) rfl, exec_badLen_of_ne h (k := 2#8) rfl (by decide) rfl,
    fun hp => table (doWriteTable_short hp s), fun space h2 hs hp => table (doWriteTable_uncut h2 hs hp s),
    exec_badLen_of_ne h (k := 4#8) rfl (by decide) rfl, exec_badLen_of_ne h (k := 5#8) rfl (by decide) rfl, fun hp => ?gains,
    exec_badLen_of_ne h (k := 7#8) rfl (by decide) rfl, exec_badLen_of_ne h (k := 8#8) rfl (by decide) rfl,
    fun hp => ?events,
    exec_badLen_of_ne h (k := 0x0A#8) rfl (by decide) rfl, exec_badLen_of_ne h (k := 0x0B#8) rfl (by decide) rfl,
    exec_badLen_of_ne h (k := 0x0C#8) rfl (by decide) rfl, exec_badLen_of_ne h (k := 0x0D#8) rfl (by decide) rfl,
    exec_badLen_of_ne h (k := 0x0E#8) rfl (by decide) rfl, exec_badLen_of_ne h (k := 0x0F#8) rfl (by decide) rfl,
    exec_badLen_of_ne h (k := 0x10#8) rfl (by decide) rfl⟩
  case gains =>
    have hl : lengthAllowed 6 p.length = false := by
      simp only [lengthAllowed, Bool.and_eq_false_iff, beq_eq_false_iff_ne, decide_eq_false_iff_not]
      omega
    exact exec_badLen h (k := 6#8) rfl (by decide) hl
  case events =>
    have hl : lengthAllowed 9 p.length = false := by
      simp only [lengthAllowed, Bool.and_eq_false_iff, beq_eq_false_iff_ne, decide_eq_false_iff_not]
      omega
    exact exec_badLen h (k := 9#8) rfl (by decide) hl

end Sys2Proof.Machine
end

section
namespace Sys2Proof.Machine

/-! ### A message handed on and the takes behind it (R156, R158) -/

theorem State.takeMessages_add (a b : Nat) (s : State) :
    State.takeMessages (a + b) s = State.takeMessages b (State.takeMessages a s) := by
  induction a generalizing s with
  | zero => rw [Nat.zero_add, State.takeMessages]
  | succ a ih => rw [Nat.succ_add, State.takeMessages, State.takeMessages, ih]

/-- Each state is the one before it with its oldest message taken, n times over (R158). -/
def TakenInOrder (states : Nat → State) (n : Nat) : Prop :=
  ∀ j, j < n → ∃ oldest rest, (states j).commands = oldest :: rest ∧ (states j).responses.length < 16 ∧
    states (j + 1) = { states j with commands := rest }.execute oldest

section
variable {states : Nat → State} {n : Nat} (h : TakenInOrder states n)
include h

theorem TakenInOrder.take {j : Nat} (hj : j < n) : states (j + 1) = (states j).takeMessage := by
  obtain ⟨oldest, rest, hc, hr, hs⟩ := h j hj
  rw [hs, State.takeMessage_ready hc hr]

theorem TakenInOrder.takeMessages {j : Nat} (hj : j ≤ n) : State.takeMessages j (states 0) = states j := by
  induction j with
  | zero => rfl
  | succ j ih => rw [State.takeMessages_add, ih (Nat.le_of_succ_le hj), h.take hj, State.takeMessages, State.takeMessages]

/-- Every take is of one message that waited. -/
theorem TakenInOrder.commands_length {j : Nat} (hj : j ≤ n) :
    (states j).commands.length + j = (states 0).commands.length := by
  induction j with
  | zero => rfl
  | succ j ih =>
    obtain ⟨oldest, rest, hc, _, hs⟩ := h j hj
    have before := ih (Nat.le_of_succ_le hj)
    rw [hc, List.length_cons] at before
    rw [hs, State.execute_commands]
    dsimp only
    omega

/-- Takes that have come to an end are all that the messages waiting at first give rise to. -/
theorem TakenInOrder.takeMessages_all (hend : (states n).commands = [] ∨ 16 ≤ (states n).responses.length) :
    State.takeMessages (states 0).commands.length (states 0) = states n := by
  rw [← h.commands_length le_rfl, Nat.add_comm, State.takeMessages_add, h.takeMessages le_rfl, State.takeMessages_idle hend]

end

/-- Settles O9: the row joins or drops its message, and its takes are those of `TakenInOrder`. -/
theorem messageWaitsOrIsDropped : Obligations.MessageWaitsOrIsDropped := by
  intro c m s hm joined dropped handed
  have hexec : exec c s = .next (State.takeMessages handed.commands.length handed) := exec_of_messageOf hm s
  refine ⟨fun hfull => ?_, fun states n h0 hrun hend => ?_⟩
  · have hresponses : handed.responses = s.responses := by
      unfold handed
      split <;> rfl
    rw [hexec, State.takeMessages_idle (.inr (hresponses ▸ hfull))]
  · rw [hexec, ← h0, TakenInOrder.takeMessages_all hrun hend]

/-! ### What every command leaves: the film position and a status (R162) -/

theorem Status.octet_le (t : Status) : t.octet.toNat ≤ 8 := by cases t <;> decide

/-- The response's payload begins with a status (R162). -/
def Reply.hasStatus (r : Reply) : Prop := ∃ (t : Status) (data : List Octet), r.payload = t.octet :: data

theorem Reply.hasStatus_only (s : State) (t : Status) : (Reply.only s t).hasStatus := ⟨t, _, rfl⟩

theorem Reply.hasStatus_counted (s : State) (t : Status) (n : Nat) : (Reply.counted s t n).hasStatus := ⟨t, _, rfl⟩

theorem Reply.hasStatus_withData (s : State) (t : Status) (data : List Octet) : (Reply.withData s t data).hasStatus :=
  ⟨t, _, rfl⟩

theorem doCommand_hasStatus (k : Nat) (p : List Octet) (s : State) : (doCommand k p s).hasStatus := by
  unfold doCommand
  split
  · exact Reply.hasStatus_withData _ _ _
  · unfold doReadTable
    split
    · exact Reply.hasStatus_counted _ _ _
    · dsimp only
      split
      · exact Reply.hasStatus_counted _ _ _
      · exact Reply.hasStatus_withData _ _ _
  · unfold doWriteTable
    split
    · exact Reply.hasStatus_only _ _
    · split
      · exact Reply.hasStatus_counted _ _ _
      · dsimp only
        split
        · exact Reply.hasStatus_only _ _
        · exact Reply.hasStatus_counted _ _ _
  · unfold doWriteField
    split <;> exact Reply.hasStatus_only _ _
  · unfold doSetWindow
    split <;> exact Reply.hasStatus_only _ _
  · unfold doWriteGains
    split
    · exact Reply.hasStatus_counted _ _ _
    · split <;> exact Reply.hasStatus_counted _ _ _
  · unfold doReadGains
    dsimp only
    split
    · exact Reply.hasStatus_withData _ _ _
    · exact Reply.hasStatus_only _ _
  · unfold doMatrixClear
    split
    · exact Reply.hasStatus_only _ _
    · split <;> exact Reply.hasStatus_only _ _
  · exact Reply.hasStatus_counted _ _ _
  · exact Reply.hasStatus_only _ _
  · unfold doPunch
    dsimp only
    split
    · exact Reply.hasStatus_counted _ _ _
    · split <;> exact Reply.hasStatus_counted _ _ _
  · exact Reply.hasStatus_withData _ _ _
  · unfold doClearFlags
    split <;> exact Reply.hasStatus_only _ _
  · unfold doTestAndClear
    split
    · exact Reply.hasStatus_only _ _
    · exact Reply.hasStatus_withData _ _ _
  · unfold doReadCounters
    dsimp only
    split
    · split
      · exact Reply.hasStatus_only _ _
      · exact Reply.hasStatus_withData _ _ _
    · exact Reply.hasStatus_only _ _
  · exact Reply.hasStatus_only _ _
  · exact Reply.hasStatus_only _ _

theorem runMessage_hasStatus (m : Message) (s : State) : (runMessage m s).hasStatus := by
  unfold runMessage
  split
  · exact Reply.hasStatus_only _ _
  · split
    · exact Reply.hasStatus_only _ _
    · exact doCommand_hasStatus _ _ s

/-- A change of link state stops the transport at most (R134). -/
theorem State.moveLink_pos (s : State) (l : Link) (st : LinkState) (via : Option BufFrame) :
    (s.moveLink l st via).tracker.pos = s.tracker.pos := by
  by_cases h : (s.link l).state = st
  · rw [State.moveLink_self _ _ _ _ h]
  · rcases s.moveLink_cases l st via h with ⟨_, e⟩ | ⟨_, _, e⟩ | ⟨_, _, _, e⟩ <;> rw [e] <;> rfl

theorem State.reclassify_pos (s : State) (w : List Nat) (l : Link) : (s.reclassify w l).tracker.pos = s.tracker.pos := by
  unfold State.reclassify
  split
  · rfl
  · split
    · exact State.moveLink_pos _ _ _ _
    · rfl

theorem State.afterWrite_pos (s w : State) (space : Fin 8) (idx n : Nat) :
    (s.afterWrite w space idx n).tracker.pos = w.tracker.pos := by
  unfold State.afterWrite
  split
  · dsimp only
    rw [State.reclassify_pos, State.reclassify_pos, State.reclassify_pos, State.reclassify_pos]
  · rfl
  · rfl

theorem doWriteTable_pos (p : List Octet) (s : State) : (doWriteTable p s).state.tracker.pos = s.tracker.pos := by
  unfold doWriteTable
  split
  · rfl
  · split
    · rfl
    · dsimp only
      split
      · rfl
      · exact (State.afterWrite_pos _ _ _ _ _).trans (congrArg Tracker.pos (State.sameLinks_writeRecords _ _ _ s).2.2)

theorem runMessage_pos (m : Message) (s : State) : (runMessage m s).state.tracker.pos = s.tracker.pos := by
  unfold runMessage
  split
  · rfl
  · split
    · rfl
    · by_cases hk : m.kind.toNat = 3
      · rw [hk]
        exact doWriteTable_pos m.payload s
      · exact congrArg Tracker.pos (State.sameLinks_doCommand _ _ s hk).2.2

/-- Settles O2: a take is `execute` of the oldest message, and of an executed message `State.SameChannel` says what stays. -/
theorem emptyQueueTakesOldestMessage : Obligations.EmptyQueueTakesOldestMessage := by
  refine fun s => ⟨fun hp => ⟨fun hidle => ?_, fun m rest hc hr => ?_⟩, fun c m hm hready => ?_⟩
  · rw [step, hp]
    exact congrArg _ (State.takeMessage_idle hidle)
  · intro t
    obtain ⟨hframer, hcommands, hresponses, hold, hnew, hsent, hpending⟩ :=
      State.sameChannel_runMessage m { s with commands := rest }
    obtain ⟨status, data, hpayload⟩ := runMessage_hasStatus m { s with commands := rest }
    have hstep : step s = .next t := by
      rw [step, hp]
      exact congrArg _ (State.takeMessage_ready hc hr)
    refine ⟨hstep, hcommands, hframer, hold, hnew, hsent, hpending.trans hp, runMessage_pos m _, status.octet, data,
      status.octet_le, ?_⟩
    rw [← hpayload]
    exact State.execute_responses _ m
  · rw [exec_of_messageOf hm, s.submit_ready m hready]

end Sys2Proof.Machine
end

section
namespace Sys2Proof.Machine

/-! ### Bits of bitmaps and of their octets (R173) -/

/-- Item i stands at bit i mod 8 of octet i div 8 (R173). -/
theorem getLsbD_octetsBitmap (l : List Octet) {i : Nat} (hi : i < 128) :
    (octetsBitmap l).getLsbD i = (l.getD (i / 8) 0#8).getLsbD (i % 8) := by
  induction l generalizing i with
  | nil => simp [octetsBitmap]
  | cons o rest ih =>
    rw [octetsBitmap, BitVec.getLsbD_or, BitVec.getLsbD_setWidth, BitVec.getLsbD_shiftLeft]
    by_cases h : i < 8
    · simp [h, hi, Nat.div_eq_of_lt h, Nat.mod_eq_of_lt h]
    · obtain ⟨j, rfl⟩ : ∃ j, i = j + 8 := ⟨i - 8, by omega⟩
      simp [ih (i := j) (by omega), hi, Nat.add_div_right]

theorem getLsbD_bitmapOctets {n : Nat} (b : Bitmap) {i : Nat} (hi : i < 8 * n) :
    ((bitmapOctets n b).getD (i / 8) 0#8).getLsbD (i % 8) = b.getLsbD i := by
  have hdiv : i / 8 < n := by omega
  have hmod : i % 8 < 8 := Nat.mod_lt i (by decide)
  simp [bitmapOctets, List.getD_eq_getElem?_getD, hdiv, hmod, Nat.div_add_mod]

/-! ### READ_FLAGS (R168, R180) -/

/-- Settles O38: the bitmaps as `bitmapOctets_eq` writes them, and the report as READ_FLAGS leaves it. -/
theorem readFlagsReturnsBitmaps : Obligations.ReadFlagsReturnsBitmaps := by
  intro s tag h size
  have hbitmaps : s.report.allBitmaps =
      (List.finRange 8).flatMap fun c =>
        (List.range (size c)).map fun j => BitVec.setWidth 8 ((s.report.items[c] : Bitmap) >>> (8 * j)) :=
    congrArg (List.flatMap · _) (funext fun c => bitmapOctets_eq (size c) s.report.items[c])
  exact exec_reply h (k := 0x0C#8) rfl (by decide) rfl (congrArg (Reply.withData _ .ok) hbitmaps)

/-! ### CLEAR_FLAGS and TEST_AND_CLEAR (R168, R181, R182) -/

section
variable {s : State} (h : s.ready) (tag : Octet) {cls : Octet} {mask : List Octet} (hm : mask.length = 16)
include h hm

theorem exec_clearFlags_reply {t : State} {q : List Octet} (hr : doClearFlags (cls :: mask) s = ⟨t, q⟩) :
    exec (.clearFlags tag (cls :: mask)) s = .next (t.respond 0x8D#8 tag q) :=
  exec_reply h (k := 0x0D#8) rfl (by decide) (beq_iff_eq.2 (congrArg Nat.succ hm)) hr

theorem exec_testAndClear_reply {t : State} {q : List Octet} (hr : doTestAndClear (cls :: mask) s = ⟨t, q⟩) :
    exec (.testAndClear tag (cls :: mask)) s = .next (t.respond 0x8E#8 tag q) :=
  exec_reply h (k := 0x0E#8) rfl (by decide) (beq_iff_eq.2 (congrArg Nat.succ hm)) hr

end

/-- Settles O39: what is left of a class, and what is returned of it, bit by bit. -/
theorem clearFlagsClearsNamedItems : Obligations.ClearFlagsClearsNamedItems := by
  intro s tag cls mask h hm
  refine ⟨fun hcls => ?_, fun c hc => ?_⟩
  · have hnone : index? 8 ((cls :: mask).getD 0 0).toNat = none := index?_of_le hcls
    refine ⟨exec_clearFlags_reply h tag hm ?_, exec_testAndClear_reply h tag hm ?_⟩
    · rw [doClearFlags, hnone]
      rfl
    · rw [doTestAndClear, hnone]
      rfl
  · have hsome : index? 8 ((cls :: mask).getD 0 0).toNat = some c := index?_eq_some_iff.2 hc
    have hoctet : octet c.val = cls := by
      rw [← hc]
      exact BitVec.eq_of_toNat_eq (by simp [octet])
    refine ⟨s.report.items[c] &&& ~~~octetsBitmap mask, bitmapOctets 16 (s.report.items[c] &&& octetsBitmap mask),
      fun i hi => ?_, by rw [bitmapOctets, List.length_map, List.length_range], fun i hi => ?_,
      exec_clearFlags_reply h tag hm ?_, exec_testAndClear_reply h tag hm ?_⟩
    · rw [BitVec.getLsbD_and, BitVec.getLsbD_not, getLsbD_octetsBitmap mask hi, decide_eq_true hi, Bool.true_and]
    · rw [getLsbD_bitmapOctets _ hi, BitVec.getLsbD_and, getLsbD_octetsBitmap mask hi]
    · rw [doClearFlags, hsome]
      rfl
    · rw [doTestAndClear, hsome]
      dsimp only
      rw [hoctet]
      rfl

end Sys2Proof.Machine
end

section
namespace Sys2Proof.Machine

/-! ### Additions to a counter (R183) -/

/-- The report with `x` in counter n. -/
def Report.withCounter (r : Report) (n : Fin 84) (x : Nat) : Report := { r with counters := r.counters.set n x }

section
variable (r : Report) (n : Fin 84) (x y : Nat)

theorem Report.withCounter_getElem : (r.withCounter n x).counters[n] = x := Vector.getElem_set_self _

theorem Report.withCounter_withCounter : (r.withCounter n x).withCounter n y = r.withCounter n y :=
  by
  simp only [Report.withCounter, Vector.set_set]

theorem Report.withCounter_self : r.withCounter n r.counters[n] = r :=
  congrArg (fun v => { r with counters := v }) (Vector.set_getElem_self _)

end

/-! No cause of an item reads a counter. -/

section
variable (r : Report) (v : Vector Nat 84)

theorem Report.becomeDue_of_counters : ({ r with counters := v } : Report).becomeDue = { r.becomeDue with counters := v } := by
  unfold Report.becomeDue
  dsimp only
  change (if r.noticeBusy = true then _ else _) = { (if r.noticeBusy = true then _ else _ : Report) with counters := v }
  split <;> rfl

theorem Report.addUnreported_of_counters :
    ({ r with counters := v } : Report).addUnreported = { r.addUnreported with counters := v } := by
  unfold Report.addUnreported
  dsimp only
  split
  · exact Report.becomeDue_of_counters
      { r with
        unreported := min 15 (r.unreported + 1)
        timer := if r.unreported = 0 ∧ 1 ≤ r.control.coalTimer then some (r.control.coalTimer * 48) else r.timer } v
  · rfl

theorem Report.setItem_of_counters (i : Item) :
    ({ r with counters := v } : Report).setItem i = { r.setItem i with counters := v } := by
  unfold Report.setItem
  change (if r.isSet i = true then _ else _) = { (if r.isSet i = true then _ else _ : Report) with counters := v }
  split
  · rfl
  · dsimp only
    split
    · rfl
    · exact Report.addUnreported_of_counters { r with items := _ } v

end

theorem Report.withCounter_setItem (r : Report) (n : Fin 84) (x : Nat) (i : Item) :
    (r.withCounter n x).setItem i = (r.setItem i).withCounter n x := by
  rw [Report.withCounter, Report.withCounter, Report.setItem_of_counters, Report.setItem_counters]

section
variable {r : Report} {n : Fin 84}

/-- An addition that does not reach half scale changes the counter alone. -/
theorem Report.addCount_quiet {x : Nat} (hx : r.counters[n] = x) (hle : x ≤ 65535) (h : x + 1 ≠ 32768) :
    r.addCount n = r.withCounter n (min 65535 (x + 1)) := by
  subst hx
  by_cases htop : 65535 ≤ r.counters[n]
  · have hmin : min 65535 (r.counters[n] + 1) = r.counters[n] := by omega
    rw [hmin, Report.withCounter_self]
    exact if_pos htop
  · have hmin : min 65535 (r.counters[n] + 1) = r.counters[n] + 1 := by omega
    rw [hmin, Report.addCount, if_neg htop]
    exact if_neg h

/-- The addition that reaches half scale sets the counter's item. -/
theorem Report.addCount_half (h : r.counters[n] = 32767) : r.addCount n = (r.withCounter n 32768).setItem (.counter n) := by
  simp only [Report.addCount, Report.withCounter, h]
  rfl

/-- Additions on one side of half scale change the counter alone. -/
theorem Report.addCounts_quiet (hle : r.counters[n] ≤ 65535) {k : Nat}
    (h : 32768 ≤ r.counters[n] ∨ r.counters[n] + k < 32768) :
    r.addCounts n k = r.withCounter n (min 65535 (r.counters[n] + k)) := by
  induction k with
  | zero =>
    rw [Nat.add_zero, Nat.min_eq_right hle, Report.withCounter_self]
    rfl
  | succ k ih =>
    rw [Report.addCounts_succ, ih (by omega), Report.addCount_quiet (r.withCounter_getElem n _) (by omega) (by omega),
      Report.withCounter_withCounter]
    congr 1
    omega

/-- Additions across half scale set the counter's item, whatever is added behind it. -/
theorem Report.addCounts_half {k : Nat} (hlow : r.counters[n] < 32768) (h : 32768 ≤ r.counters[n] + k) :
    r.addCounts n k = (r.withCounter n (min 65535 (r.counters[n] + k))).setItem (.counter n) := by
  induction k with
  | zero => omega
  | succ k ih =>
    rw [Report.addCounts_succ]
    by_cases hk : 32768 ≤ r.counters[n] + k
    · have hcount : ((r.withCounter n (min 65535 (r.counters[n] + k))).setItem (.counter n)).counters[n] =
          min 65535 (r.counters[n] + k) := by
        rw [Report.setItem_counters, Report.withCounter_getElem]
      rw [ih hk, Report.addCount_quiet hcount (by omega) (by omega), ← Report.withCounter_setItem,
        Report.withCounter_withCounter]
      congr 2
      omega
    · have hcount : (r.withCounter n (min 65535 (r.counters[n] + k))).counters[n] = 32767 := by
        rw [Report.withCounter_getElem]
        omega
      rw [Report.addCounts_quiet (by omega) (.inr (Nat.lt_of_not_le hk)), Report.addCount_half hcount,
        Report.withCounter_withCounter]
      congr 2
      omega

end

/-! ### The setting of an item (R174, R176 to R178) -/

section
variable {r : Report} {i : Item}

theorem Report.setItem_of_set (h : r.isSet i = true) : r.setItem i = r := if_pos h

theorem Report.setItem_of_steered (h : r.isSet i = false) (hs : r.notices[itemClass i].steer ≠ .none) :
    r.setItem i =
      ({ r with items := r.items.set (itemClass i) (r.items[itemClass i] ||| itemBit i) } : Report).addUnreported := by
  rw [Report.setItem, h]
  exact if_neg hs

end

/-- One more unreported item below the coalescing count (R176, R177). -/
theorem Report.addUnreported_below {r : Report} (hc : r.control.coalCount ≤ 15) (h : r.unreported + 1 < r.control.coalCount) :
    r.addUnreported = { r with
      unreported := r.unreported + 1
      timer := if r.unreported = 0 ∧ 1 ≤ r.control.coalTimer then some (r.control.coalTimer * 48) else r.timer } := by
  have hn : min 15 (r.unreported + 1) = r.unreported + 1 := by omega
  rw [Report.addUnreported, hn]
  exact if_neg (by omega)

/-- One more unreported item at the coalescing count (R178). -/
theorem Report.addUnreported_at {r : Report} (hc : r.control.coalCount ≤ 15) (h : r.control.coalCount ≤ r.unreported + 1) :
    r.addUnreported = (if r.noticeBusy = true
      then { r with unreported := min 15 (r.unreported + 1), timer := none, due := true } else r.compose) := by
  have hn : r.control.coalCount ≤ min 15 (r.unreported + 1) := by omega
  exact if_pos hn

/-- Settles O42: the tables of classes and numbers, the run of additions against half scale, and the branches of
`Report.setItem`. -/
theorem counterAndItemRules : Obligations.CounterAndItemRules := by
  unfold Obligations.CounterAndItemRules
  intro flag
  have constant : ∀ i : Item, flag i (itemClass i) (itemIndex i) := fun i => ⟨rfl, rfl⟩
  refine ⟨fun l => ?_, constant _, fun b => constant (.clip b), constant _, constant _, constant _, constant _, constant _,
    constant _, constant _, fun t => constant (.punch t), constant _, constant _, constant _, constant _,
    fun n => constant (.counter n), constant _, constant _, fun r => ⟨fun _ => rfl, fun n k hle => ?_,
    fun i => Report.setItem_of_set, fun i hunset hcount => ?_⟩⟩
  · cases l <;> exact constant (.link _)
  · exact ⟨fun h => Report.addCounts_half h.1 h.2, Report.addCounts_quiet hle⟩
  · intro c items
    refine ⟨fun hs => ?_, fun hs hbelow => ?_, fun hs hat hbusy => ?_, fun hs hat hidle => ?_⟩
    · rw [Report.setItem_of_unsteered hs, hunset]
      rfl
    · rw [Report.setItem_of_steered hunset hs]
      exact Report.addUnreported_below (r := { r with items := items }) hcount hbelow
    · rw [Report.setItem_of_steered hunset hs]
      exact (Report.addUnreported_at (r := { r with items := items }) hcount hat).trans (if_pos hbusy)
    · rw [Report.setItem_of_steered hunset hs]
      refine (Report.addUnreported_at (r := { r with items := items }) hcount hat).trans (if_neg fun e => ?_)
      exact nomatch hidle.symm.trans e

end Sys2Proof.Machine
end

section
namespace Sys2Proof.Machine

/-! ### One octet at the framer (R152 to R154, R156) -/

/-- What one octet makes of the framer, a message that it completes being judged at once, and the octets to be examined
again. -/
def State.takeOctet (s : State) (o : Octet) : State × List Octet := (s.frameOctet o).judge

theorem State.judge_of_incomplete {s : State} (h : s.framer.complete = none) : s.judge = (s, []) := by
  rw [State.judge, h]

section
variable {s : State} {o : Octet}

theorem State.takeOctet_start (h : s.framer = .hunt) (ho : o = 0xC3#8) : s.takeOctet o = ({ s with framer := .length }, []) := by
  have hf : s.frameOctet o = { s with framer := .length } := by
    rw [State.frameOctet, h]
    exact if_pos ho
  rw [State.takeOctet, hf]
  exact State.judge_of_incomplete rfl

theorem State.takeOctet_idle (h : s.framer = .hunt) (ho : o ≠ 0xC3#8) : s.takeOctet o = (s, []) := by
  have hf : s.frameOctet o = s := by
    rw [State.frameOctet, h]
    exact if_neg ho
  rw [State.takeOctet, hf]
  exact State.judge_of_incomplete (by rw [h]; rfl)

theorem State.takeOctet_runt (h : s.framer = .length) (ho : o.toNat < 6) :
    s.takeOctet o = ({ s with framer := .hunt, report := (s.report.addCount runtCount).setItem .runt }, []) := by
  have hf : s.frameOctet o = { s with framer := .hunt, report := (s.report.addCount runtCount).setItem .runt } := by
    rw [State.frameOctet, h]
    exact if_pos ho
  rw [State.takeOctet, hf]
  exact State.judge_of_incomplete rfl

theorem State.takeOctet_long (h : s.framer = .length) (ho : 64 < o.toNat) :
    s.takeOctet o = ({ s with framer := .hunt, report := (s.report.addCount longCount).setItem .long }, []) := by
  have hf : s.frameOctet o = { s with framer := .hunt, report := (s.report.addCount longCount).setItem .long } := by
    rw [State.frameOctet, h]
    exact (if_neg (by omega)).trans (if_pos ho)
  rw [State.takeOctet, hf]
  exact State.judge_of_incomplete rfl

theorem State.takeOctet_begun (h : s.framer = .length) (hlo : 6 ≤ o.toNat) (hhi : o.toNat ≤ 64) :
    s.takeOctet o = ({ s with framer := .body [0xC3#8, o] }, []) := by
  have hf : s.frameOctet o = { s with framer := .body [0xC3#8, o] } := by
    rw [State.frameOctet, h]
    exact (if_neg (by omega)).trans (if_neg (by omega))
  have hshort : ¬[0xC3#8, o].length = ([0xC3#8, o].getD 1 0).toNat := by
    change ¬2 = o.toNat
    omega
  rw [State.takeOctet, hf]
  exact State.judge_of_incomplete (if_neg hshort)

section
variable {held : List Octet} (h : s.framer = .body held)
include h

theorem State.frameOctet_body : s.frameOctet o = { s with framer := .body (held ++ [o]) } := by
  rw [State.frameOctet, h]

theorem State.takeOctet_more (hn : (held ++ [o]).length ≠ ((held ++ [o]).getD 1 0).toNat) :
    s.takeOctet o = ({ s with framer := .body (held ++ [o]) }, []) := by
  rw [State.takeOctet, State.frameOctet_body h]
  exact State.judge_of_incomplete (if_neg hn)

theorem State.takeOctet_valid {m : Message} (hn : (held ++ [o]).length = ((held ++ [o]).getD 1 0).toNat)
    (hm : heldMessage (held ++ [o]) = some m) : s.takeOctet o = ({ s with framer := .hunt }.joinMessage m, []) := by
  have hcomplete : (Framer.body (held ++ [o])).complete = some (held ++ [o]) := if_pos hn
  rw [State.takeOctet, State.frameOctet_body h, State.judge, hcomplete]
  dsimp only
  rw [hm]

theorem State.takeOctet_failed (hn : (held ++ [o]).length = ((held ++ [o]).getD 1 0).toNat)
    (hm : heldMessage (held ++ [o]) = none) : s.takeOctet o = (s.failCheck, (held ++ [o]).drop 2) := by
  have hcomplete : (Framer.body (held ++ [o])).complete = some (held ++ [o]) := if_pos hn
  rw [State.takeOctet, State.frameOctet_body h, State.judge, hcomplete]
  dsimp only
  rw [hm]
  rfl

end

/-! ### The framer's work comes to an end (R154) -/

/-- What an octet makes of the number held: one more, none, or none with all but two to be examined again. -/
theorem State.takeOctet_counts (s : State) (o : Octet) :
    ((s.takeOctet o).2 = [] ∧ (s.takeOctet o).1.framer.heldCount = s.framer.heldCount + 1) ∨
    ((s.takeOctet o).2 = [] ∧ (s.takeOctet o).1.framer.heldCount = 0) ∨
    ((s.takeOctet o).2.length + 2 ≤ s.framer.heldCount + 1 ∧ (s.takeOctet o).1.framer.heldCount = 0) := by
  cases h : s.framer with
  | hunt =>
    by_cases ho : o = 0xC3#8
    · rw [State.takeOctet_start h ho]
      exact .inl ⟨rfl, rfl⟩
    · rw [State.takeOctet_idle h ho]
      exact .inr (.inl ⟨rfl, by rw [h]; rfl⟩)
  | length =>
    by_cases hlo : o.toNat < 6
    · rw [State.takeOctet_runt h hlo]
      exact .inr (.inl ⟨rfl, rfl⟩)
    · by_cases hhi : 64 < o.toNat
      · rw [State.takeOctet_long h hhi]
        exact .inr (.inl ⟨rfl, rfl⟩)
      · rw [State.takeOctet_begun h (by omega) (by omega)]
        exact .inl ⟨rfl, rfl⟩
  | body held =>
    by_cases hn : (held ++ [o]).length = ((held ++ [o]).getD 1 0).toNat
    · cases hm : heldMessage (held ++ [o]) with
      | some m =>
        rw [State.takeOctet_valid h hn hm]
        obtain ⟨_, _, hjoin⟩ := State.joinMessage_touches { s with framer := .hunt } m
        exact .inr (.inl ⟨rfl, by rw [hjoin]; rfl⟩)
      | none =>
        have hlen : 2 ≤ (held ++ [o]).length := by
          cases held with
          | nil => exact nomatch hn
          | cons x held => simp
        rw [State.takeOctet_failed h hn hm]
        refine .inr (.inr ⟨?_, rfl⟩)
        rw [List.length_drop]
        simp only [List.length_append, List.length_singleton] at hlen ⊢
        change held.length + 1 - 2 + 2 ≤ held.length + 1
        omega
    · rw [State.takeOctet_more h hn]
      exact .inl ⟨rfl, List.length_append⟩

end

/-- A bound on the octets that the framer has yet to take, those to be examined again among them. -/
def State.laneWork (s : State) (l : List Octet) : Nat :=
  (s.framer.heldCount + l.length) * (s.framer.heldCount + l.length) + (s.framer.heldCount + l.length) + l.length

theorem State.takeOctet_laneWork (s : State) (o : Octet) (rest : List Octet) :
    (s.takeOctet o).1.laneWork ((s.takeOctet o).2 ++ rest) < s.laneWork (o :: rest) := by
  have hcounts := s.takeOctet_counts o
  unfold State.laneWork
  rw [List.length_append, List.length_cons]
  generalize (s.takeOctet o).1.framer.heldCount = h' at hcounts ⊢
  generalize s.framer.heldCount = h at hcounts ⊢
  generalize rest.length = n
  rcases hcounts with ⟨hback, hheld⟩ | ⟨hback, hheld⟩ | ⟨hback, hheld⟩
  · rw [hback, hheld, List.length_nil]
    have hsame : h + 1 + (0 + n) = h + (n + 1) := by omega
    rw [hsame]
    omega
  · rw [hback, hheld, List.length_nil]
    have hless : 0 + (0 + n) ≤ h + (n + 1) := by omega
    have hsquare := Nat.mul_le_mul hless hless
    omega
  · generalize (s.takeOctet o).2.length = k at hback ⊢
    have hless : k + n + 2 ≤ h + (n + 1) := by omega
    have hsquare := Nat.mul_le_mul hless hless
    have hexpand : (k + n + 2) * (k + n + 2) = (k + n) * (k + n) + 4 * (k + n) + 4 := by ring
    rw [hheld, Nat.zero_add]
    omega

/-- Fuel that is enough is as good as any other that is. -/
theorem State.frameOctets_of_laneWork {n m : Nat} {l : List Octet} {s : State} (hn : s.laneWork l ≤ n) (hm : s.laneWork l ≤ m) :
    State.frameOctets n l s = State.frameOctets m l s := by
  induction n generalizing m l s with
  | zero =>
    have hl : l = [] := List.length_eq_zero_iff.1 (by rw [State.laneWork] at hn; omega)
    subst hl
    cases m <;> rfl
  | succ n ih =>
    cases l with
    | nil => cases m <;> rfl
    | cons o rest =>
      have hwork := s.takeOctet_laneWork o rest
      cases m with
      | zero => omega
      | succ m => exact ih (Nat.le_of_lt_succ (hwork.trans_le hn)) (Nat.le_of_lt_succ (hwork.trans_le hm))

theorem State.takeLane_of_laneWork {n : Nat} {l : List Octet} {s : State} (hn : s.laneWork l ≤ n) :
    s.takeLane l = State.frameOctets n l s := by
  refine State.frameOctets_of_laneWork ?_ hn
  unfold frameFuel State.laneWork
  omega

/-- The framer takes one octet, and then what it has to examine again before what is still to come (R154). -/
theorem State.takeLane_cons (s : State) (o : Octet) (rest : List Octet) :
    s.takeLane (o :: rest) = (s.takeOctet o).1.takeLane ((s.takeOctet o).2 ++ rest) := by
  have hwork := s.takeOctet_laneWork o rest
  rw [State.takeLane_of_laneWork (n := s.laneWork (o :: rest) + 1) (by omega),
    State.takeLane_of_laneWork (n := s.laneWork (o :: rest)) (by omega)]
  rfl

/-- Octets are taken one after another, however they come in words (R152). -/
theorem State.takeLane_append (s : State) (before after : List Octet) :
    s.takeLane (before ++ after) = (s.takeLane before).takeLane after := by
  induction hw : s.laneWork before using Nat.strong_induction_on generalizing s before with
  | _ w ih =>
    cases before with
    | nil => rfl
    | cons o rest =>
      have hwork := s.takeOctet_laneWork o rest
      rw [List.cons_append, State.takeLane_cons, State.takeLane_cons, ← List.append_assoc]
      exact ih _ (hw ▸ hwork) _ _ rfl

theorem State.takeLane_singleton {s t : State} {o : Octet} {again : List Octet} (h : s.takeOctet o = (t, again)) :
    s.takeLane [o] = t.takeLane again := by
  rw [State.takeLane_cons, h, List.append_nil]

/-! ### The octet that completes a message (R154, R156) -/

/-- The check of a whole run of held octets agrees (R154). -/
def checkAgrees (held : List Octet) : Prop :=
  crc16 ((held.drop 1).take (held.length - 3)) = word16 (held.getD (held.length - 2) 0) (held.getD (held.length - 1) 0)

theorem heldMessage_of_agrees {held : List Octet} (h : checkAgrees held) :
    heldMessage held = some ⟨held.getD 2 0, held.getD 3 0, (held.drop 4).take (held.length - 6)⟩ := if_pos h

theorem heldMessage_of_not_agrees {held : List Octet} (h : ¬checkAgrees held) : heldMessage held = none := if_neg h

theorem State.joinMessage_room {s : State} (h : s.commands.length < 16) (m : Message) :
    s.joinMessage m = { s with commands := s.commands ++ [m] } := if_pos h

theorem State.joinMessage_full {s : State} (h : 16 ≤ s.commands.length) (m : Message) :
    s.joinMessage m = { s with report := (s.report.addCount 14).setItem .dropped } := if_neg (Nat.not_lt.2 h)

/-- Settles O8: state by state, `State.takeOctet`, and for runs of octets `State.takeLane_append`. -/
theorem framerStates : Obligations.FramerStates := by
  refine fun s o => ⟨fun h ho => State.takeLane_singleton (State.takeOctet_start h ho),
    fun h ho => State.takeLane_singleton (State.takeOctet_idle h ho),
    fun h ho => State.takeLane_singleton (State.takeOctet_runt h ho),
    fun h ho => State.takeLane_singleton (State.takeOctet_long h ho),
    fun h hlo hhi => State.takeLane_singleton (State.takeOctet_begun h hlo hhi), fun held h h2 hn => ?_,
    fun held h h2 _ hn => ?_, State.takeLane_append s⟩
  · refine State.takeLane_singleton (State.takeOctet_more h ?_)
    rw [List.getD_append _ _ _ _ h2, List.length_append, List.length_singleton]
    omega
  · intro all n agrees
    have hcomplete : (held ++ [o]).length = ((held ++ [o]).getD 1 0).toNat := by
      rw [List.getD_append _ _ _ _ h2, List.length_append, List.length_singleton]
      exact hn
    refine ⟨fun ha hroom => ?_, fun ha hfull => ?_, fun ha => ?_⟩
    · refine (State.takeLane_singleton (State.takeOctet_valid h hcomplete (heldMessage_of_agrees ha))).trans ?_
      exact State.joinMessage_room (s := { s with framer := .hunt }) hroom _
    · refine (State.takeLane_singleton (State.takeOctet_valid h hcomplete (heldMessage_of_agrees ha))).trans ?_
      exact State.joinMessage_full (s := { s with framer := .hunt }) hfull _
    · exact State.takeLane_singleton (State.takeOctet_failed h hcomplete (heldMessage_of_not_agrees ha))

/-! ### A whole message (R152, R153, R156, R170) -/

theorem State.takeLane_idle {s : State} (h : s.framer = .hunt) {l : List Octet} (hl : ∀ o ∈ l, o ≠ 0xC3#8) :
    s.takeLane l = s := by
  induction l with
  | nil => rfl
  | cons o rest ih =>
    rw [State.takeLane_cons, State.takeOctet_idle h (hl o List.mem_cons_self)]
    exact ih fun x hx => hl x (List.mem_cons_of_mem o hx)

/-- Octets short of the message's end are held. -/
theorem State.takeLane_held {s : State} {held l : List Octet} (h : s.framer = .body held) (h2 : 2 ≤ held.length)
    (hn : held.length + l.length < (held.getD 1 0).toNat) : s.takeLane l = { s with framer := .body (held ++ l) } := by
  induction l generalizing s held with
  | nil =>
    rw [List.append_nil, ← h]
    rfl
  | cons o rest ih =>
    have hlen : (held ++ [o]).length = held.length + 1 := List.length_append
    have hget : (held ++ [o]).getD 1 0 = held.getD 1 0 := List.getD_append _ _ _ _ h2
    rw [List.length_cons] at hn
    rw [State.takeLane_cons, State.takeOctet_more h (by rw [hlen, hget]; omega)]
    refine (ih (s := { s with framer := .body (held ++ [o]) }) rfl (by omega) (by rw [hlen, hget]; omega)).trans ?_
    rw [List.append_assoc]
    rfl

theorem Message.body_length (m : Message) : m.body.length = m.payload.length + 3 := rfl

/-- The octets of a message are read back as that message (R154, R170). -/
theorem heldMessage_octets (m : Message) : heldMessage m.octets = some m := by
  have hlen : m.octets.length = m.payload.length + 6 := Sys2Proof.Laws.message_length m
  have hcheck : ∀ i, m.octets.getD (m.payload.length + 4 + i) 0 = (octets16 (crc16 m.body)).getD i 0 := fun i => by
    have hat : m.payload.length + 4 + i = (0xC3#8 :: m.body).length + i := by
      rw [List.length_cons, m.body_length]
    rw [hat]
    exact (List.getD_append_right _ _ _ _ (Nat.le_add_right _ _)).trans (congrArg (List.getD _ · 0) (Nat.add_sub_cancel_left _ _))
  have hagrees : checkAgrees m.octets := by
    have hbody : (m.octets.drop 1).take (m.payload.length + 3) = m.body := List.take_left' m.body_length
    have hhi := hcheck 0
    have hlo := hcheck 1
    rw [checkAgrees, hlen, show m.payload.length + 6 - 3 = m.payload.length + 3 by omega, hbody,
      show m.payload.length + 6 - 2 = m.payload.length + 4 + 0 by omega,
      show m.payload.length + 6 - 1 = m.payload.length + 4 + 1 by omega, hhi, hlo, word16_octets16]
  have hpayload : (m.octets.drop 4).take (m.octets.length - 6) = m.payload := by
    rw [hlen, Nat.add_sub_cancel]
    exact List.take_left' rfl
  rw [heldMessage_of_agrees hagrees, hpayload]
  rfl

/-- The octets of a message between its length octet and its last. -/
def Message.inner (m : Message) : List Octet := m.kind :: m.tag :: m.payload ++ [(crc16 m.body).extractLsb' 8 8]

theorem Message.octets_eq (m : Message) :
    m.octets = [0xC3#8, BitVec.ofNat 8 (m.payload.length + 6)] ++ m.inner ++ [(crc16 m.body).extractLsb' 0 8] := by
  simp [Message.octets, Message.body, Message.inner, octets16]

/-- A hunting framer hands a whole message on (R152, R156). -/
theorem State.takeLane_message {s : State} (h : s.framer = .hunt) {m : Message} (hp : m.payload.length ≤ 58)
    (hc : s.commands.length < 16) : s.takeLane m.octets = { s with commands := s.commands ++ [m] } := by
  have hlen : (BitVec.ofNat 8 (m.payload.length + 6)).toNat = m.payload.length + 6 := by
    rw [BitVec.toNat_ofNat]
    omega
  have hinner : m.inner.length = m.payload.length + 3 := by
    simp [Message.inner]
  have hstart : s.takeLane [0xC3#8, BitVec.ofNat 8 (m.payload.length + 6)] =
      { s with framer := .body [0xC3#8, BitVec.ofNat 8 (m.payload.length + 6)] } := by
    rw [State.takeLane_cons, State.takeOctet_start h rfl]
    exact State.takeLane_singleton (State.takeOctet_begun rfl (by omega) (by omega))
  have hheld := State.takeLane_held (s := { s with framer := .body [0xC3#8, BitVec.ofNat 8 (m.payload.length + 6)] })
    (l := m.inner) rfl le_rfl (by change 2 + m.inner.length < (BitVec.ofNat 8 (m.payload.length + 6)).toNat; omega)
  have hcomplete : m.octets.length = (m.octets.getD 1 0).toNat := (Sys2Proof.Laws.message_length m).trans hlen.symm
  have hmessage := heldMessage_octets m
  rw [m.octets_eq] at hcomplete hmessage ⊢
  rw [State.takeLane_append, State.takeLane_append, hstart, hheld,
    State.takeLane_singleton (State.takeOctet_valid rfl hcomplete hmessage)]
  refine (State.joinMessage_room (s := { s with framer := .hunt }) hc m).trans ?_
  rw [← h]

theorem State.foldl_takeLane (s : State) (words : List (List Octet)) :
    words.foldl State.takeLane s = s.takeLane words.flatten := by
  induction words generalizing s with
  | nil => rfl
  | cons w words ih => rw [List.foldl_cons, ih, List.flatten_cons, State.takeLane_append]

/-- Settles O6: the words are one run of octets, in which idle octets change nothing. -/
theorem framerDeliversWholeMessage : Obligations.FramerDeliversWholeMessage := by
  intro s m before after words h hp hc hidle hwords
  have hbefore : ∀ o ∈ before, o ≠ 0xC3#8 := fun o ho => hidle o (List.mem_append_left after ho)
  have hafter : ∀ o ∈ after, o ≠ 0xC3#8 := fun o ho => hidle o (List.mem_append_right before ho)
  rw [State.foldl_takeLane, hwords, State.takeLane_append, State.takeLane_append, State.takeLane_idle h hbefore,
    State.takeLane_message h hp hc]
  exact State.takeLane_idle (s := { s with commands := s.commands ++ [m] }) h hafter

end Sys2Proof.Machine
end

section
namespace Sys2Proof.Machine

/-! ### What a property of the report lasts through outside the engine frame

The receivers and the framer reach the report, as the engine frame does, by sets of items and additions to counters. -/

section
variable {P : Report → Prop} (hP : Report.Lasts 0 P)
include hP

theorem Report.Lasts.addSlip {r : Report} (h : P r) (l : Link) : P (r.addSlip l) := by
  unfold Report.addSlip
  split
  · exact h
  · exact hP.add _ _ (Nat.zero_le _) h

theorem Report.Lasts.noted {r : Report} (h : P r) (n : Fin 84) (i : Item) : P ((r.addCount n).setItem i) :=
  hP.set _ _ (hP.add _ _ (Nat.zero_le _) h)

theorem Report.Lasts.advanceSlot {s : State} (h : P s.report) (i : Fin 128) : P (s.advanceSlot i).report := by
  unfold State.advanceSlot
  dsimp only
  split
  · exact hP.set _ _ h
  · exact h

/-! #### The framer (R152 to R156) -/

theorem Report.Lasts.joinMessage {s : State} (h : P s.report) (m : Message) : P (s.joinMessage m).report := by
  unfold State.joinMessage
  split
  · exact h
  · exact hP.noted h _ _

theorem Report.Lasts.frameOctet {s : State} (h : P s.report) (o : Octet) : P (s.frameOctet o).report := by
  unfold State.frameOctet
  split
  · split <;> exact h
  · split
    · exact hP.noted h _ _
    · split
      · exact hP.noted h _ _
      · exact h
  · exact h

theorem Report.Lasts.judge {s : State} (h : P s.report) : P s.judge.1.report := by
  unfold State.judge
  split
  · exact h
  · split
    · exact hP.joinMessage (s := { s with framer := .hunt }) h _
    · exact hP.noted h _ _

theorem Report.Lasts.frameOctets (n : Nat) (l : List Octet) {s : State} (h : P s.report) :
    P (State.frameOctets n l s).report := by
  induction n generalizing l s with
  | zero => exact h
  | succ n ih =>
    cases l with
    | nil => exact h
    | cons o rest => exact ih _ (hP.judge (hP.frameOctet h o))

theorem Report.Lasts.frameBreak {s : State} (h : P s.report) : P s.frameBreak.report := by
  unfold State.frameBreak
  split
  · exact h
  · exact hP.noted h _ _
  · exact hP.noted h _ _

/-! #### The receivers (R22 to R34) -/

theorem Report.Lasts.moveLink {s : State} (h : P s.report) (l : Link) (st : LinkState) (via : Option BufFrame) :
    P (s.moveLink l st via).report := by
  by_cases hst : (s.link l).state = st
  · rw [State.moveLink_self _ _ _ _ hst]
    exact h
  · have hmoved : P (s.report.setItem (.link l)) := hP.set _ _ h
    rcases s.moveLink_cases l st via hst with ⟨_, e⟩ | ⟨_, _, e⟩ | ⟨_, _, _, e⟩
    · rw [e]
      exact hmoved
    · rw [e]
      exact hP.set _ _ hmoved
    · rw [e]
      exact hP.set _ _ hmoved

theorem Report.Lasts.joinBuffer {s : State} (h : P s.report) (l : Link) (f : BufFrame) : P (s.joinBuffer l f).report := by
  unfold State.joinBuffer
  dsimp only
  split
  · exact hP.addSlip h l
  · exact h

theorem Report.Lasts.beginSensing {s : State} (h : P s.report) (l : Link) (f : LinkFrame) : P (s.beginSensing l f).report :=
  hP.moveLink (s := s.setLink l _) h l _ _

theorem Report.Lasts.classify {s : State} (h : P s.report) (l : Link) (via : BufFrame) : P (s.classify l via).report := by
  unfold State.classify
  split
  · exact h
  · exact hP.moveLink h l _ _

theorem Report.Lasts.senseFrame {s : State} (h : P s.report) (l : Link) (f : LinkFrame) : P (s.senseFrame l f).report := by
  unfold State.senseFrame
  dsimp only
  generalize (if 1 ≤ (s.link l).run ∧ (s.link l).ann = some f.ann then (s.link l).run + 1 else 1) = run
  split
  · exact hP.classify (s := s.setLink l _) h l _
  · exact h

theorem Report.Lasts.receive {s : State} (h : P s.report) (l : Link) (f : LinkFrame) : P (s.receive l f).report := by
  unfold State.receive
  split
  · exact hP.beginSensing h l f
  · exact hP.senseFrame h l f
  · split
    · split
      · exact h
      · exact hP.joinBuffer (s := s.keepFrame l f) h l _
    · exact hP.beginSensing h l f
  · split
    · exact h
    · exact hP.beginSensing h l f

theorem Report.Lasts.loseLink {s : State} (h : P s.report) (l : Link) : P (s.loseLink l).report :=
  hP.moveLink (s := s.setLink l _) h l _ _

theorem Report.Lasts.failQuiet {s : State} (h : P s.report) (l : Link) (run : Nat) : P (s.failQuiet l run).report := by
  unfold State.failQuiet
  split
  · exact hP.loseLink h l
  · exact h

theorem Report.Lasts.repeatFrame {s : State} (h : P s.report) (l : Link) : P (s.repeatFrame l).report := by
  have hcount : P (s.addCount (repeatsOf l)).report := hP.add _ _ (Nat.zero_le _) h
  unfold State.repeatFrame
  dsimp only
  split
  · exact hcount
  · exact hP.joinBuffer hcount l _

theorem Report.Lasts.failAccepted {s : State} (h : P s.report) (l : Link) (bad : Bool) : P (s.failAccepted l bad).report := by
  have hbad : P (if bad then s.addCount (badFramesOf l) else s).report := by
    split
    · exact hP.add _ _ (Nat.zero_le _) h
    · exact h
  unfold State.failAccepted
  dsimp only
  split
  · exact hP.loseLink hbad l
  · exact hP.repeatFrame (s := State.setLink _ l _) hbad l

theorem Report.Lasts.failFrame {s : State} (h : P s.report) (l : Link) (bad : Bool) : P (s.failFrame l bad).report := by
  unfold State.failFrame
  split
  · exact h
  · exact hP.failQuiet h l _
  · exact hP.failAccepted h l bad
  · exact hP.failQuiet h l _

theorem Report.Lasts.reclassify {s : State} (h : P s.report) (written : List Nat) (l : Link) :
    P (s.reclassify written l).report := by
  unfold State.reclassify
  split
  · exact h
  · split
    · exact hP.moveLink h l _ _
    · exact h

end

/-! ### What a property of the report lasts through in a command -/

/-- No field of SOURCE, BUS, GROUP or EGRESS stands in the report (R166). -/
theorem State.writeOneField_report (s : State) (space idx field : Nat) (v : Int) :
    (s.writeOneField space idx field v).Leaves fun t => t.report = s.report := by
  have slot : ∀ (i : Fin 128) (kind idx rep cls : Nat), (s.putSlot i kind idx rep cls).Leaves fun t => t.report = s.report :=
    fun _ _ _ _ _ => .ranged trivial fun _ _ => .ranged trivial fun _ _ => .ok rfl
  unfold State.writeOneField
  split
  · refine .ranged trivial fun _ _ => ?_
    split
    · exact .ok rfl
    · exact .ranged trivial fun _ _ => .ok rfl
    · exact .ranged trivial fun _ _ => .ok rfl
    · exact .ranged trivial fun _ _ => .ok rfl
    · exact .ranged trivial fun _ _ => .ok rfl
    · exact .error trivial
  · refine .ranged trivial fun _ _ => ?_
    split
    · exact .ranged trivial fun _ _ => .ite (fun _ => .ok rfl) fun _ => .error trivial
    · exact .ok rfl
    · exact .ranged trivial fun _ _ => .ok rfl
    · exact .ranged trivial fun _ _ => .ok rfl
    · exact .error trivial
  · refine .ranged trivial fun _ _ => ?_
    split
    · exact .ok rfl
    · exact .ranged trivial fun _ _ => .ok rfl
    · exact .error trivial
  · refine .ranged trivial fun _ _ => .ite (fun _ => .error trivial) fun _ => .ranged trivial fun _ _ => ?_
    dsimp only
    split
    · exact slot _ _ _ _ _
    · exact slot _ _ _ _ _
    · exact slot _ _ _ _ _
    · exact slot _ _ _ _ _
    · exact .error trivial
  · exact .ite (fun _ => .error trivial) fun _ => .error trivial

theorem State.engineReset_report (s : State) : s.engineReset.report = s.report.engineReset := by
  simp only [State.engineReset]

theorem State.readCells_report (n : Nat) (s : State) : (State.readCells n s).1.report = s.report := by
  induction n generalizing s with
  | zero => rfl
  | succ n ih => exact ih s.stepWindow

/-- Beside the sets of items and the additions: the writes of NOTICE and CONTROL, the clears, and the engine reset. -/
structure Report.LastsCommands (P : Report → Prop) : Prop extends Report.Lasts 0 P where
  notice : ∀ (r : Report) (i : Fin 8) (n : NoticeRec), P r → P { r with notices := r.notices.set i n }
  control : ∀ (r : Report) (o : List Octet) (c : Control), controlFields? o = some c → P r → P { r with control := c }
  afterReadFlags : ∀ r : Report, P r → P r.afterReadFlags
  clearItems : ∀ (r : Report) (c : Fin 8) (mask : Bitmap), P r → P (r.clearItems c mask)
  zeroCounters : ∀ (r : Report) (first count : Nat), P r → P (r.zeroCounters first count)
  engineReset : ∀ r : Report, P r → P r.engineReset

section
variable {P : Report → Prop} (hP : Report.LastsCommands P)
include hP

theorem Report.LastsCommands.writeRecord {s : State} (h : P s.report) (space : Fin 8) (idx : Nat) (o : List Octet) :
    (s.writeRecord space idx o).Leaves fun t => P t.report := by
  unfold State.writeRecord
  split
  · exact .ranged trivial fun _ _ => .ranged trivial fun _ _ => .ok h
  · exact .ranged trivial fun _ _ => .ranged trivial fun _ _ => .ite (fun _ => .ok h) fun _ => .error trivial
  · exact .ranged trivial fun _ _ => .ranged trivial fun _ _ => .ok h
  · exact .ranged trivial fun _ _ => .ranged trivial fun _ _ => .ok h
  · exact .ranged trivial fun _ _ => .ranged trivial fun _ _ => .ite (fun _ => .ok h) fun _ => .error trivial
  · exact .ranged trivial fun _ _ => .ite (fun _ => .error trivial) fun _ =>
      .ranged trivial fun _ _ => .ranged trivial fun _ _ => .ok h
  · exact .ranged trivial fun i _ => .ranged trivial fun n _ => .ok (hP.notice _ i n h)
  · exact .ranged trivial fun _ _ => .ranged trivial fun c hc => .ok (hP.control _ o c hc h)

theorem Report.LastsCommands.writeRecords (space : Fin 8) (idx : Nat) (recs : List (List Octet)) {s : State}
    (h : P s.report) : P (State.writeRecords space idx recs s).state.report := by
  induction recs generalizing idx s with
  | nil => exact h
  | cons o rest ih =>
    unfold State.writeRecords
    split
    · exact h
    · next s1 h1 => exact ih (idx + 1) ((hP.writeRecord h space idx o).2 s1 h1)

theorem Report.LastsCommands.afterWrite {w : State} (h : P w.report) (s : State) (space : Fin 8) (idx n : Nat) :
    P (s.afterWrite w space idx n).report := by
  have hL := hP.toLasts
  unfold State.afterWrite
  split
  · have ha := hL.reclassify h ((List.range n).map (· + idx)) .a
    have hb := hL.reclassify ha ((List.range n).map (· + idx)) .b
    have hc := hL.reclassify hb ((List.range n).map (· + idx)) .c
    exact hL.reclassify hc _ .d
  · rw [State.reviewMutes_report]
    exact h
  · exact h

theorem Report.LastsCommands.doWriteTable {s : State} (h : P s.report) (p : List Octet) :
    P (doWriteTable p s).state.report := by
  unfold Machine.doWriteTable
  split
  · exact h
  · split
    · exact h
    · next space _ =>
      dsimp only
      split
      · exact h
      · exact hP.afterWrite (hP.writeRecords _ _ _ h) _ _ _ _

theorem Report.LastsCommands.gainCells (n : Fin 8) (l : List Int) {s : State} (h : P s.report) :
    P (State.gainCells n l s).1.report := by
  induction l generalizing s with
  | nil => exact h
  | cons code rest ih =>
    refine ih (s := s.gainCell n code) ?_
    unfold State.gainCell
    rw [State.stepWindow_report]
    split
    · exact h
    · exact (hP.toLasts.mono (Nat.zero_le 16)).writeXp h _ _ _ _

theorem Report.LastsCommands.takeEvents (l : List (List Octet)) (n : Nat) {s : State} (h : P s.report) :
    P (State.takeEvents l n s).state.report := by
  induction l generalizing n s with
  | nil => exact h
  | cons o rest ih =>
    unfold State.takeEvents
    split
    · exact h
    · next e _ =>
      split
      · exact ih _ (s := s.applyLate e) (hP.toLasts.noted ((hP.toLasts.mono (Nat.zero_le 16)).applyMove h e.move) _ _)
      · split
        · exact ih _ (s := { s with queue := insertEvent e s.queue }) h
        · exact h

theorem Report.LastsCommands.punchRun {s : State} (h : P s.report) (first count : Nat) (into : Bool) :
    P (s.punchRun first count into).report := by
  refine State.foldl_touches (P := fun s t => P s.report → P t.report) (fun _ => id) (fun _ _ _ f g => g ∘ f) ?_ _ s h
  intro s j h
  split
  · split
    · exact (hP.toLasts.mono (Nat.zero_le 16)).punchRequest h _ into
    · exact h
  · exact h

theorem Report.LastsCommands.doCommand {s : State} (h : P s.report) (k : Nat) (p : List Octet) :
    P (doCommand k p s).state.report := by
  have hL := hP.toLasts.mono (Nat.zero_le 16)
  unfold Machine.doCommand
  split
  · exact h
  · unfold doReadTable
    split
    · exact h
    · dsimp only
      split <;> exact h
  · exact hP.doWriteTable h p
  · unfold doWriteField
    split
    · exact h
    · next s1 h1 =>
      dsimp only [Reply.only]
      rw [(s.writeOneField_report _ _ _ _).2 s1 h1]
      exact h
  · unfold doSetWindow
    split <;> exact h
  · unfold doWriteGains
    split
    · exact h
    · split
      · exact h
      · exact hP.gainCells _ _ h
  · unfold doReadGains
    dsimp only
    split
    · dsimp only [Reply.withData]
      rw [State.readCells_report]
      exact h
    · exact h
  · unfold doMatrixClear
    split
    · exact h
    · split <;> exact h
  · exact hP.takeEvents _ _ h
  · exact hL.judgeLow (s := s.flush) (hL.addCounts _ _ (by decide) _ h) _
  · unfold doPunch
    dsimp only
    split
    · exact h
    · split
      · exact h
      · exact hP.punchRun h _ _ _
  · exact hP.afterReadFlags _ h
  · unfold doClearFlags
    split
    · exact h
    · exact hP.clearItems _ _ _ h
  · unfold doTestAndClear
    split
    · exact h
    · exact hP.clearItems _ _ _ h
  · unfold doReadCounters
    dsimp only
    split
    · split
      · exact h
      · dsimp only [Reply.withData]
        split
        · exact hP.zeroCounters _ _ _ h
        · exact h
    · exact h
  · dsimp only [doEngineReset, Reply.only]
    rw [State.engineReset_report]
    exact hP.engineReset _ h
  · exact h

theorem Report.LastsCommands.runMessage {s : State} (h : P s.report) (m : Message) : P (runMessage m s).state.report := by
  unfold Machine.runMessage
  split
  · exact h
  · split
    · exact h
    · exact hP.doCommand h _ _

end

end Sys2Proof.Machine
end

section
namespace Sys2Proof.Machine

/-! ### What every block keeps, every step keeps -/

/-- The framer, the two queues of the command channel and the report are the same. -/
def State.SameDialogue (s t : State) : Prop :=
  t.framer = s.framer ∧ t.commands = s.commands ∧ t.responses = s.responses ∧ t.report = s.report

theorem State.SameDialogue.refl (s : State) : s.SameDialogue s := ⟨rfl, rfl, rfl, rfl⟩

/-- A property of the framer, the queues of the command channel and the report, kept by the work of each block that reaches
one of them. -/
structure State.KeptByBlocks (Q : State → Prop) : Prop where
  same : ∀ s t : State, s.SameDialogue t → Q s → Q t
  receive : ∀ (s : State) (l : Link) (f : LinkFrame), Q s → Q (s.receive l f)
  failFrame : ∀ (s : State) (l : Link) (bad : Bool), Q s → Q (s.failFrame l bad)
  takeLane : ∀ (s : State) (lane : List Octet), Q s → Q (s.takeLane lane)
  frameBreak : ∀ s : State, Q s → Q s.frameBreak
  joinMessage : ∀ (s : State) (m : Message), Q s → Q (s.joinMessage m)
  takeMessage : ∀ s : State, Q s → Q s.takeMessage
  engineFrame : ∀ (s : State) (src : FrameSource), Q s → Q (s.engineFrame src)
  advanceSlot : ∀ (s : State) (i : Fin 128), Q s → Q (s.advanceSlot i)
  sweepVisits : ∀ s : State, Q s → Q s.sweepVisits
  lowerTimer : ∀ s : State, Q s → Q { s with report := s.report.lowerTimer }
  composeIfDue : ∀ s : State, Q s → Q { s with report := s.report.composeIfDue }
  startUp : Q State.reset

section
variable {Q : State → Prop} (hQ : State.KeptByBlocks Q)
include hQ

theorem State.KeptByBlocks.takeMessages {s : State} (hs : Q s) (n : Nat) : Q (State.takeMessages n s) :=
  State.takeMessages_keeps hQ.takeMessage n s hs

theorem State.KeptByBlocks.endEvent {s : State} (hs : Q s) (l : Link) (n : Nat) (src : FrameSource) : Q (s.endEvent l n src) :=
  State.endEvent_keeps src hQ.takeMessage (fun t _ => hQ.engineFrame t src) s l n hs

theorem State.KeptByBlocks.noteArrival {s : State} (hs : Q s) (l : Link) (was : ClockState) (dt : Nat) :
    Q (s.noteArrival l was dt) := by
  obtain ⟨_, h⟩ := State.noteArrival_touches s l was dt
  exact hQ.same s _ (h ▸ State.SameDialogue.refl s) hs

theorem State.KeptByBlocks.noteMissed {s : State} (hs : Q s) (l : Link) : Q (s.noteMissed l) := by
  obtain ⟨_, h⟩ := State.noteMissed_touches s l
  exact hQ.same s _ (h ▸ State.SameDialogue.refl s) hs

theorem State.KeptByBlocks.breakLane {s : State} (hs : Q s) (l : Link) (was : LinkState) : Q (s.breakLane l was) := by
  unfold State.breakLane
  split
  · exact hQ.frameBreak s hs
  · exact hs

theorem State.KeptByBlocks.passEvent {s : State} (hs : Q s) (l : Link) (f : LinkFrame) (dt late : Nat) :
    Q (s.passEvent l f dt late) := by
  have hnoted := hQ.noteArrival (hQ.receive s l f hs) l s.clock.state dt
  refine hQ.endEvent ?_ l _ _
  unfold State.takeFrame State.readLane
  split
  · exact hQ.takeLane _ f.lane hnoted
  · exact hnoted

theorem State.KeptByBlocks.badEvent {s : State} (hs : Q s) (l : Link) (dt : Nat) : Q (s.badEvent l dt) := by
  unfold State.badEvent
  split
  · exact hs
  · exact hQ.endEvent (hQ.breakLane (hQ.noteArrival (hQ.failFrame s l true hs) l _ dt) l _) l _ _

theorem State.KeptByBlocks.missingEvent {s : State} (hs : Q s) (l : Link) : Q (s.missingEvent l) := by
  unfold State.missingEvent
  split
  · exact hs
  · exact hQ.endEvent (hQ.breakLane (hQ.noteMissed (hQ.failFrame s l false hs) l) l _) l _ _

/-- Every row of the table keeps the property. -/
theorem State.KeptByBlocks.exec {s t : State} (hs : Q s) (c : Instr) (h : exec c s = .next t) : Q t := by
  cases c with
  | passingFrame l o dt n =>
    rw [Machine.exec, execPassingFrame] at h
    split at h
    · cases h
      exact hQ.passEvent (hQ.takeMessages hs _) l _ dt _
    · cases h
      exact hQ.badEvent (hQ.takeMessages hs _) l dt
  | badFrame l dt =>
    cases h
    exact hQ.badEvent hs l dt
  | missingFrame l =>
    cases h
    exact hQ.missingEvent hs l
  | oscillatorPeriod =>
    cases h
    exact State.periodEvent_keeps hQ.takeMessage (fun t _ => hQ.engineFrame t .oscillator) s hs
  | startUpReset =>
    cases h
    exact hQ.same State.reset _ ⟨rfl, rfl, rfl, rfl⟩ hQ.startUp
  | rampCompletion r c =>
    rw [Machine.exec, execRampCompletion] at h
    split at h
    · cases h
      split
      · exact hQ.same s _ ⟨rfl, rfl, rfl, rfl⟩ hs
      · exact hs
    · cases h
      exact hs
  | punchArrival i =>
    cases h
    split
    · exact hQ.advanceSlot s i hs
    · exact hs
  | sweepCompletion =>
    cases h
    split
    · exact hQ.sweepVisits s hs
    · exact hs
  | coalescingTimerExpiry =>
    rw [Machine.exec, execCoalescingTimerExpiry] at h
    split at h
    · cases h
      split
      · exact hQ.lowerTimer s hs
      · exact hs
    · cases h
      exact hs
  | noticeComposition =>
    cases h
    exact hQ.composeIfDue s hs
  | _ =>
    cases h
    exact hQ.takeMessages (hQ.joinMessage s _ hs) _

theorem State.KeptByBlocks.step {s t : State} (hs : Q s) (h : step s = .next t) : Q t := by
  unfold Machine.step at h
  split at h
  · cases h
    exact hQ.takeMessage s hs
  · next c rest _ =>
    exact hQ.exec (s := { s with pending := rest }) (hQ.same s _ ⟨rfl, rfl, rfl, rfl⟩ hs) c h

end

/-- A step of a message taken: it leaves the command queue, is run, and its response joins (R158). -/
theorem State.takeMessage_cases (s : State) :
    s.takeMessage = s ∨ ∃ m rest, s.commands = m :: rest ∧ s.responses.length < 16 ∧
      s.takeMessage = { s with commands := rest }.execute m := by
  cases hc : s.commands with
  | nil => exact .inl (State.takeMessage_idle (.inl hc))
  | cons m rest =>
    by_cases hr : s.responses.length < 16
    · exact .inr ⟨m, rest, rfl, hr, State.takeMessage_ready hc hr⟩
    · exact .inl (State.takeMessage_idle (.inr (Nat.not_lt.1 hr)))

/-! ### The notice block (R161, R167, R176 to R178) -/

theorem Lane.hasNotice_of_sendsNotice {l : Lane} (h : l.sendsNotice) : l.hasNotice = true := by
  obtain ⟨t, ht, hn⟩ := h
  simp [Lane.hasNotice, ht, hn]

/-- While no notice is in transmission neither lane sends one (R161). -/
theorem Report.not_sendsNotice {r : Report} (h : r.noticeBusy = false) : ¬r.laneX.sendsNotice ∧ ¬r.laneY.sendsNotice := by
  obtain ⟨hx, hy⟩ := Bool.or_eq_false_iff.1 h
  exact ⟨fun e => (Bool.eq_false_iff.1 hx) (Lane.hasNotice_of_sendsNotice e),
    fun e => (Bool.eq_false_iff.1 hy) (Lane.hasNotice_of_sendsNotice e)⟩

/-- R167: the four fields of a CONTROL record that a write could have put there. -/
def Control.ok (c : Control) : Prop :=
  1 ≤ c.coalCount ∧ c.coalCount ≤ 15 ∧ c.coalTimer ≤ 63 ∧ c.lowMark ≤ 511 ∧ c.holdThreshold ≤ 15

theorem ok_of_controlFields? {o : List Octet} {c : Control} (h : controlFields? o = some c) : c.ok := by
  unfold controlFields? at h
  dsimp only at h
  split at h
  · next hr =>
    obtain ⟨h1, h15, ht, hl, hh⟩ := hr
    cases h
    exact ⟨h1, h15, ht, hl, hh⟩
  · exact nomatch h

theorem NoticeOk.compose {r : Report} (hc : r.control.ok) (hb : r.noticeBusy = false) : NoticeOk r.compose := by
  obtain ⟨hx, hy⟩ := Report.not_sendsNotice hb
  exact ⟨hc, Nat.zero_le _, fun _ => ⟨rfl, rfl⟩, (fun h => nomatch h), (fun _ h => nomatch h), fun _ => hx, fun _ => hy⟩

/-- A notice made due behind an item unreported (R178). -/
theorem NoticeOk.becomeDue {r : Report} (h : NoticeOk r) (hu : r.unreported ≠ 0) : NoticeOk r.becomeDue := by
  obtain ⟨hc, hcount, _, _, _, hx, hy⟩ := h
  by_cases hb : r.noticeBusy = true
  · rw [Report.becomeDue_busy hb]
    exact ⟨hc, hcount, fun e => absurd e hu, fun _ => ⟨rfl, hb⟩, (fun _ e => nomatch e), hx, hy⟩
  · rw [Report.becomeDue_idle (Bool.eq_false_iff.2 hb)]
    exact NoticeOk.compose hc (Bool.eq_false_iff.2 hb)

/-- R176, R177: the count goes up, and the first of a count starts the timer. -/
theorem NoticeOk.addUnreported {r : Report} (h : NoticeOk r) : NoticeOk r.addUnreported := by
  have hcounted : NoticeOk { r with
      unreported := min 15 (r.unreported + 1)
      timer := if r.unreported = 0 ∧ 1 ≤ r.control.coalTimer then some (r.control.coalTimer * 48) else r.timer } := by
    obtain ⟨hc, hcount, hzero, hdue, htimer, hx, hy⟩ := h
    refine ⟨hc, Nat.min_le_left _ _, fun e => ?_, fun e => ⟨?_, (hdue e).2⟩, fun n e => ?_, hx, hy⟩
    · dsimp only at e
      omega
    · refine (if_neg fun hfirst => ?_).trans (hdue e).1
      exact nomatch (hzero hfirst.1).2.symm.trans e
    · dsimp only at e
      split at e
      · next hfirst =>
        have hlimit := hc.2.2.1
        obtain rfl := Option.some.inj e
        omega
      · exact htimer n e
  unfold Report.addUnreported
  dsimp only
  split
  · refine hcounted.becomeDue ?_
    dsimp only
    omega
  · exact hcounted

/-! The block's agreement does not speak of the items, the NOTICE records and the counters. -/

theorem NoticeOk.withItems {r : Report} (h : NoticeOk r) (v : Vector Bitmap 8) : NoticeOk { r with items := v } := h

theorem NoticeOk.withNotices {r : Report} (h : NoticeOk r) (v : Vector NoticeRec 8) : NoticeOk { r with notices := v } := h

theorem NoticeOk.withCounters {r : Report} (h : NoticeOk r) (v : Vector Nat 84) : NoticeOk { r with counters := v } := h

theorem NoticeOk.setItem {r : Report} (h : NoticeOk r) (i : Item) : NoticeOk (r.setItem i) := by
  unfold Report.setItem
  split
  · exact h
  · dsimp only
    split
    · exact h.withItems _
    · exact (h.withItems _).addUnreported

theorem NoticeOk.wiped {r : Report} (h : NoticeOk r) : NoticeOk r.wiped := by
  obtain ⟨hc, _⟩ := h
  exact ⟨hc, Nat.zero_le _, fun _ => ⟨rfl, rfl⟩, (fun e => nomatch e), (fun _ e => nomatch e), fun e => absurd rfl e,
    fun e => absurd rfl e⟩

theorem NoticeOk.afterReadFlags {r : Report} (h : NoticeOk r) : NoticeOk r.afterReadFlags := by
  obtain ⟨hc, _, _, _, _, hx, hy⟩ := h
  exact ⟨hc, Nat.zero_le _, fun _ => ⟨rfl, rfl⟩, (fun e => nomatch e), (fun _ e => nomatch e), hx, hy⟩

theorem NoticeOk.withControl {r : Report} (h : NoticeOk r) {c : Control} (hc : c.ok) : NoticeOk { r with control := c } := by
  obtain ⟨_, hrest⟩ := h
  exact ⟨hc, hrest⟩

theorem NoticeOk.lasts : Report.LastsCommands NoticeOk where
  toLasts := .of_set (fun _ i h => h.setItem i) (fun _ v h => h.withCounters v)
  notice _ _ _ h := h.withNotices _
  control _ _ _ hc h := h.withControl (ok_of_controlFields? hc)
  afterReadFlags _ h := h.afterReadFlags
  clearItems _ _ _ h := h.withItems _
  zeroCounters _ _ _ h := h.withCounters _
  engineReset _ h := h.wiped.setItem .engine

/-- R177: a running timer stands behind an item unreported. -/
theorem NoticeOk.lowerTimer {r : Report} (h : NoticeOk r) : NoticeOk r.lowerTimer := by
  cases ht : r.timer with
  | none => exact (Report.lowerTimer_none ht).symm ▸ h
  | some n =>
    obtain ⟨hc, hcount, hzero, hdue, htimer, hx, hy⟩ := id h
    have hu : r.unreported ≠ 0 := fun e => nomatch ht.symm.trans (hzero e).1
    have hd : ¬r.due = true := fun e => nomatch ht.symm.trans (hdue e).1
    by_cases hn : n ≤ 1
    · rw [Report.lowerTimer_expires ht hn]
      exact h.becomeDue hu
    · have hrange := htimer n ht
      rw [Report.lowerTimer_runs ht (Nat.lt_of_not_le hn)]
      refine ⟨hc, hcount, fun e => absurd e hu, fun e => absurd e hd, fun m e => ?_, hx, hy⟩
      obtain rfl := Option.some.inj e
      omega

theorem NoticeOk.composeIfDue {r : Report} (h : NoticeOk r) : NoticeOk r.composeIfDue := by
  obtain ⟨_, _, _, hdue, _⟩ := id h
  rw [Report.composeIfDue_stays]
  · exact h
  · by_cases hd : r.due = true
    · exact .inr (hdue hd).2
    · exact .inl (Bool.eq_false_iff.2 hd)

/-- A lane that sends no notice in front of a copy sends none after the word either (R160, R161). -/
theorem Lane.not_sendsNotice_after {l : Lane} (h : l.waiting ≠ none → ¬l.sendsNotice) (responses : List Message) :
    (l.after responses).waiting ≠ none → ¬(l.after responses).sendsNotice := by
  obtain ⟨waiting, tx⟩ := l
  cases tx with
  | some m =>
    intro hw hs
    refine h hw ⟨m, rfl, ?_⟩
    obtain ⟨t, ht, hn⟩ := hs
    rw [Lane.after_tx] at ht
    dsimp only [txLeft] at ht
    split at ht
    · exact nomatch ht
    · obtain rfl := Option.some.inj ht
      exact hn
  | none =>
    intro hw
    refine absurd ?_ hw
    rw [Lane.after_eq]
    cases waiting with
    | some copy => rfl
    | none => cases responses <;> rfl

/-- The words of a frame can end the notice in transmission, and one that was due behind it is then composed (R178). -/
theorem NoticeOk.afterWords {s : State} (h : NoticeOk s.report) : NoticeOk s.afterWords.composeIfDue := by
  obtain ⟨hc, hcount, hzero, hdue, htimer, hx, hy⟩ := h
  by_cases hcomposed : s.afterWords.due = true ∧ s.afterWords.noticeBusy = false
  · rw [Report.composeIfDue_composes hcomposed.1 hcomposed.2]
    exact NoticeOk.compose hc hcomposed.2
  · have hbusy : s.afterWords.due = true → s.afterWords.noticeBusy = true := fun hd => by
      by_contra hb
      exact hcomposed ⟨hd, Bool.eq_false_iff.2 hb⟩
    have hok : NoticeOk s.afterWords := ⟨hc, hcount, hzero, fun hd => ⟨(hdue hd).1, hbusy hd⟩, htimer,
      Lane.not_sendsNotice_after hx _, Lane.not_sendsNotice_after hy _⟩
    exact hok.composeIfDue

theorem NoticeOk.takeMessage {s : State} (h : NoticeOk s.report) : NoticeOk s.takeMessage.report := by
  rcases s.takeMessage_cases with e | ⟨m, rest, _, _, e⟩
  · rw [e]
    exact h
  · rw [e]
    exact NoticeOk.lasts.runMessage (s := { s with commands := rest }) h m

theorem NoticeOk.kept : State.KeptByBlocks fun s => NoticeOk s.report :=
  have hL := NoticeOk.lasts.toLasts
  { same := fun s t hd h => by
      obtain ⟨_, _, _, hreport⟩ := hd
      rw [hreport]
      exact h
    receive := fun _ l f h => hL.receive h l f
    failFrame := fun _ l bad h => hL.failFrame h l bad
    takeLane := fun _ lane h => hL.frameOctets _ lane h
    frameBreak := fun _ h => hL.frameBreak h
    joinMessage := fun _ m h => hL.joinMessage h m
    takeMessage := fun _ h => NoticeOk.takeMessage h
    engineFrame := fun _ src h => hL.wholeFrame (NoticeOk.afterWords h).lowerTimer src
    advanceSlot := fun s i h => hL.advanceSlot h i
    sweepVisits := fun _ h => (hL.mono (Nat.zero_le 16)).sweepVisits h
    lowerTimer := fun _ h => NoticeOk.lowerTimer h
    composeIfDue := fun _ h => NoticeOk.composeIfDue h
    startUp := NoticeOk.reset }

/-- Settles O59: every set of an item, addition, clear and write keeps the block in agreement, and so does the composition
that a frame's words can bring about. -/
theorem noticeBlockKept : Obligations.NoticeBlockKept := fun _ _ hs h => NoticeOk.kept.step hs h

end Sys2Proof.Machine
end

section
namespace Sys2Proof.Machine

/-! ### The queues of the command channel and the framer (R152, R153, R157, R159) -/

theorem ChannelOk.joinMessage {s : State} (h : ChannelOk s) (m : Message) : ChannelOk (s.joinMessage m) := by
  obtain ⟨hcommands, hrest⟩ := h
  by_cases hroom : s.commands.length < 16
  · rw [State.joinMessage_room hroom]
    refine ⟨?_, hrest⟩
    rw [List.length_append, List.length_singleton]
    exact hroom
  · rw [State.joinMessage_full (Nat.not_lt.1 hroom)]
    exact ⟨hcommands, hrest⟩

/-- A framer that hunts, whatever the report. -/
theorem ChannelOk.hunting {s : State} (h : ChannelOk s) (rp : Report) :
    ChannelOk { s with framer := .hunt, report := rp } := by
  obtain ⟨hcommands, hresponses, _⟩ := h
  exact ⟨hcommands, hresponses, trivial⟩

/-- One octet keeps the framer's holding a message begun (R152, R153). -/
theorem ChannelOk.takeOctet {s : State} (h : ChannelOk s) (o : Octet) : ChannelOk (s.takeOctet o).1 := by
  obtain ⟨hcommands, hresponses, hframer⟩ := id h
  cases hs : s.framer with
  | hunt =>
    by_cases ho : o = 0xC3#8
    · rw [State.takeOctet_start hs ho]
      exact ⟨hcommands, hresponses, trivial⟩
    · rw [State.takeOctet_idle hs ho]
      exact h
  | length =>
    by_cases hlo : o.toNat < 6
    · rw [State.takeOctet_runt hs hlo]
      exact h.hunting _
    · by_cases hhi : 64 < o.toNat
      · rw [State.takeOctet_long hs hhi]
        exact h.hunting _
      · rw [State.takeOctet_begun hs (by omega) (by omega)]
        refine ⟨hcommands, hresponses, le_rfl, rfl, Nat.not_lt.1 hlo, Nat.not_lt.1 hhi, ?_⟩
        change 2 < o.toNat
        omega
  | body held =>
    rw [hs] at hframer
    obtain ⟨h2, hstart, hlo, hhi, hshort⟩ := hframer
    have hlen : (held ++ [o]).length = held.length + 1 := List.length_append
    have hget : ∀ i, i < 2 → (held ++ [o]).getD i 0 = held.getD i 0 := fun i hi =>
      List.getD_append _ _ _ _ (hi.trans_le h2)
    by_cases hn : (held ++ [o]).length = ((held ++ [o]).getD 1 0).toNat
    · cases hm : heldMessage (held ++ [o]) with
      | some m =>
        rw [State.takeOctet_valid hs hn hm]
        exact (h.hunting s.report).joinMessage m
      | none =>
        rw [State.takeOctet_failed hs hn hm]
        exact h.hunting _
    · rw [State.takeOctet_more hs hn]
      rw [hlen, hget 1 (by decide)] at hn
      refine ⟨hcommands, hresponses, ?_, ?_, ?_, ?_, ?_⟩
      · omega
      · rw [hget 0 (by decide), hstart]
      · rw [hget 1 (by decide)]
        exact hlo
      · rw [hget 1 (by decide)]
        exact hhi
      · rw [hlen, hget 1 (by decide)]
        omega

theorem ChannelOk.frameOctets (n : Nat) (l : List Octet) {s : State} (h : ChannelOk s) :
    ChannelOk (State.frameOctets n l s) := by
  induction n generalizing l s with
  | zero => exact h
  | succ n ih =>
    cases l with
    | nil => exact h
    | cons o rest => exact ih _ (h.takeOctet o)

theorem ChannelOk.frameBreak {s : State} (h : ChannelOk s) : ChannelOk s.frameBreak := by
  unfold State.frameBreak
  split
  · exact h
  · exact h.hunting _
  · exact h.hunting _

theorem ChannelOk.takeMessage {s : State} (h : ChannelOk s) : ChannelOk s.takeMessage := by
  rcases s.takeMessage_cases with e | ⟨m, rest, hc, hr, e⟩
  · rw [e]
    exact h
  · obtain ⟨hcommands, _, hframer⟩ := h
    rw [hc, List.length_cons] at hcommands
    rw [e]
    refine ⟨?_, ?_, ?_⟩
    · rw [State.execute_commands]
      exact Nat.le_of_succ_le hcommands
    · rw [State.execute_responses, List.length_append, List.length_singleton]
      exact hr
    · have hsame : ({ s with commands := rest }.execute m).framer = s.framer := (State.sameChannel_runMessage m _).1
      rw [hsame]
      exact hframer

/-- The response queue of an engine frame: the oldest leaves with its last octets (R159). -/
theorem State.engineFrame_responses (s : State) (src : FrameSource) :
    (s.engineFrame src).responses = if s.report.laneX.endsResponse s.responses then s.responses.drop 1 else s.responses :=
  (s.engineFrame_of_start src).2.1

/-- An engine frame leaves the framer and the command queue. -/
theorem State.engineFrame_inbound (s : State) (src : FrameSource) :
    (s.engineFrame src).framer = s.framer ∧ (s.engineFrame src).commands = s.commands := by
  obtain ⟨_, _, _, _, _, _, _, _, _, _, _, _, _, _, e⟩ := s.engineFrame_touches src
  rw [e]
  exact ⟨rfl, rfl⟩

theorem ChannelOk.engineFrame {s : State} (h : ChannelOk s) (src : FrameSource) : ChannelOk (s.engineFrame src) := by
  obtain ⟨hcommands, hresponses, hframer⟩ := h
  obtain ⟨hsameframer, hsamecommands⟩ := s.engineFrame_inbound src
  have hleft : (s.engineFrame src).responses.length ≤ 16 := by
    rw [State.engineFrame_responses]
    split
    · rw [List.length_drop]
      omega
    · exact hresponses
  exact ⟨by rw [hsamecommands]; exact hcommands, hleft, by rw [hsameframer]; exact hframer⟩

theorem ChannelOk.kept : State.KeptByBlocks ChannelOk where
  same s t hd h := by
    obtain ⟨hframer, hcommands, hresponses, _⟩ := hd
    unfold ChannelOk
    rw [hframer, hcommands, hresponses]
    exact h
  receive s l f h := by
    obtain ⟨_, _, _, _, _, e⟩ := s.receive_touches l f
    rw [e]
    exact h
  failFrame s l bad h := by
    obtain ⟨_, _, _, _, _, e⟩ := s.failFrame_touches l bad
    rw [e]
    exact h
  takeLane _ lane h := h.frameOctets _ lane
  frameBreak _ h := h.frameBreak
  joinMessage _ m h := h.joinMessage m
  takeMessage _ h := h.takeMessage
  engineFrame _ src h := h.engineFrame src
  advanceSlot _ _ h := h
  sweepVisits s h := by
    obtain ⟨_, _, _, e⟩ := s.sweepVisits_touches
    rw [e]
    exact h
  lowerTimer _ h := h
  composeIfDue _ h := h
  startUp := ⟨Nat.zero_le _, Nat.zero_le _, trivial⟩

/-! ### The messages in transmission (R159, R160) -/

/-- The messages in transmission on the two lanes are those. -/
def Report.Transmits (x y : Option Tx) (r : Report) : Prop := r.laneX.tx = x ∧ r.laneY.tx = y

theorem Report.Transmits.of_same {x y : Option Tx} {r q : Report} (h : r.Transmits x y) (hx : q.laneX.tx = r.laneX.tx)
    (hy : q.laneY.tx = r.laneY.tx) : q.Transmits x y := by
  obtain ⟨ex, ey⟩ := h
  exact ⟨hx.trans ex, hy.trans ey⟩

/-- No command and no event outside the engine frame reaches a message in transmission. -/
theorem Report.Transmits.lasts (x y : Option Tx) : Report.LastsCommands (Report.Transmits x y) where
  toLasts := Report.Lasts.transmissions x y
  notice _ _ _ h := h.of_same rfl rfl
  control _ _ _ _ h := h.of_same rfl rfl
  afterReadFlags _ h := h.of_same rfl rfl
  clearItems _ _ _ h := h.of_same rfl rfl
  zeroCounters _ _ _ h := h.of_same rfl rfl
  engineReset r h := h.of_same (r.wiped.setItem_txX .engine) (r.wiped.setItem_txY .engine)

/-- If it is a response, the message in transmission is the oldest of the queue, and octets of it are still to come (R159,
R160). -/
def Tx.OfOldest (responses : List Message) (t : Tx) : Prop :=
  t.traffic = .response → ∃ m rest, responses = m :: rest ∧ t.rest ≠ [] ∧ t.rest <:+ m.octets

/-- A response that joins does so behind the one in transmission. -/
theorem Tx.OfOldest.append {responses : List Message} {t : Tx} (h : t.OfOldest responses) (more : List Message) :
    t.OfOldest (responses ++ more) := fun htraffic => by
  obtain ⟨m, rest, hresponses, hleft⟩ := h htraffic
  exact ⟨m, rest ++ more, by rw [hresponses, List.cons_append], hleft⟩

theorem lanesOk_iff (s : State) :
    LanesOk s ↔ (∀ t, s.report.laneX.tx = some t → t.OfOldest s.responses) ∧
      ∀ t, s.report.laneY.tx = some t → t.traffic = .notice := Iff.rfl

/-- The same responses behind the same messages in transmission. -/
theorem LanesOk.of_transmits {s t : State} (h : LanesOk s) (hr : t.responses = s.responses)
    (ht : t.report.Transmits s.report.laneX.tx s.report.laneY.tx) : LanesOk t := by
  obtain ⟨hx, hy⟩ := ht
  rw [lanesOk_iff, hr, hx, hy]
  exact h

theorem State.execute_report (s : State) (m : Message) : (s.execute m).report = (runMessage m s).state.report := rfl

theorem LanesOk.takeMessage {s : State} (h : LanesOk s) : LanesOk s.takeMessage := by
  rcases s.takeMessage_cases with e | ⟨m, rest, _, _, e⟩
  · rw [e]
    exact h
  · obtain ⟨hx, hy⟩ := (Report.Transmits.lasts s.report.laneX.tx s.report.laneY.tx).runMessage
      (s := { s with commands := rest }) ⟨rfl, rfl⟩ m
    rw [e, lanesOk_iff, State.execute_responses, State.execute_report, hx, hy]
    obtain ⟨holdest, hnotices⟩ := (lanesOk_iff s).1 h
    exact ⟨fun t e => (holdest t e).append _, hnotices⟩

/-- What is left of a message after a word is an end of it that is not empty. -/
theorem txLeft_eq_some {traffic : Traffic} {octets : List Octet} {t : Tx} (h : txLeft traffic octets = some t) :
    t.traffic = traffic ∧ 4 < octets.length ∧ t.rest ≠ [] ∧ t.rest <:+ octets := by
  unfold txLeft at h
  split at h
  · exact nomatch h
  · next hlen =>
    obtain rfl := Option.some.inj h
    exact ⟨rfl, Nat.lt_of_not_le hlen, List.ne_nil_of_length_pos (by rw [List.length_drop]; omega), List.drop_suffix 4 octets⟩

/-- A frame's word on X goes on with the response in transmission or begins the oldest one; a response that it ends is no
longer in transmission (R159, R160). -/
theorem Lane.after_ofOldest {lane : Lane} {responses : List Message} (h : ∀ t, lane.tx = some t → t.OfOldest responses)
    {t : Tx} (ht : (lane.after responses).tx = some t) (htraffic : t.traffic = .response) :
    lane.endsResponse responses ≠ true ∧ ∃ m rest, responses = m :: rest ∧ t.rest ≠ [] ∧ t.rest <:+ m.octets := by
  obtain ⟨waiting, tx⟩ := lane
  rw [Lane.after_tx] at ht
  rw [Ne, Lane.endsResponse_iff]
  cases tx with
  | some left =>
    obtain ⟨hsame, hlen, hne, hsuffix⟩ := txLeft_eq_some ht
    obtain ⟨m, rest, hresponses, _, hbefore⟩ := h left rfl (hsame.symm.trans htraffic)
    refine ⟨?_, m, rest, hresponses, hne, hsuffix.trans hbefore⟩
    rintro ⟨_, e, hshort⟩
    obtain rfl := Option.some.inj e
    exact absurd hlen (Nat.not_lt.2 hshort)
  | none =>
    refine ⟨(fun ⟨_, e, _⟩ => nomatch e), ?_⟩
    cases waiting with
    | some copy => exact nomatch (txLeft_eq_some ht).1.symm.trans htraffic
    | none =>
      cases responses with
      | nil => exact nomatch ht
      | cons m rest =>
        obtain ⟨_, _, hne, hsuffix⟩ := txLeft_eq_some ht
        exact ⟨m, rest, rfl, hne, hsuffix⟩

/-- A frame's word on Y, which carries no responses, goes on with a notice or begins one (R160). -/
theorem Lane.after_notice {lane : Lane} (h : ∀ t, lane.tx = some t → t.traffic = .notice) {t : Tx}
    (ht : (lane.after []).tx = some t) : t.traffic = .notice := by
  obtain ⟨waiting, tx⟩ := lane
  rw [Lane.after_tx] at ht
  cases tx with
  | some left => exact (txLeft_eq_some ht).1.trans (h left rfl)
  | none =>
    cases waiting with
    | some copy => exact (txLeft_eq_some ht).1
    | none => exact nomatch ht

theorem LanesOk.engineFrame {s : State} (h : LanesOk s) (src : FrameSource) : LanesOk (s.engineFrame src) := by
  obtain ⟨hx, hy⟩ := s.engineFrame_transmissions src
  rw [lanesOk_iff, hx, hy, State.engineFrame_responses]
  obtain ⟨holdest, hnotices⟩ := (lanesOk_iff s).1 h
  refine ⟨fun t ht htraffic => ?_, fun t ht => Lane.after_notice hnotices ht⟩
  obtain ⟨hgoes, hleft⟩ := Lane.after_ofOldest holdest ht htraffic
  rw [if_neg hgoes]
  exact hleft

theorem LanesOk.kept : State.KeptByBlocks LanesOk where
  same s t hd h := by
    obtain ⟨_, _, hresponses, hreport⟩ := hd
    exact h.of_transmits hresponses (hreport ▸ ⟨rfl, rfl⟩)
  receive s l f h := by
    refine h.of_transmits ?_ ((Report.Lasts.transmissions _ _).receive (s := s) ⟨rfl, rfl⟩ l f)
    obtain ⟨_, _, _, _, _, e⟩ := s.receive_touches l f
    rw [e]
  failFrame s l bad h := by
    refine h.of_transmits ?_ ((Report.Lasts.transmissions _ _).failFrame (s := s) ⟨rfl, rfl⟩ l bad)
    obtain ⟨_, _, _, _, _, e⟩ := s.failFrame_touches l bad
    rw [e]
  takeLane s lane h := by
    refine h.of_transmits ?_ ((Report.Lasts.transmissions _ _).frameOctets _ lane (s := s) ⟨rfl, rfl⟩)
    obtain ⟨_, _, _, e⟩ := s.takeLane_touches lane
    rw [e]
  frameBreak s h := by
    refine h.of_transmits ?_ ((Report.Lasts.transmissions _ _).frameBreak (s := s) ⟨rfl, rfl⟩)
    obtain ⟨_, _, e⟩ := s.frameBreak_touches
    rw [e]
  joinMessage s m h := by
    refine h.of_transmits ?_ ((Report.Lasts.transmissions _ _).joinMessage (s := s) ⟨rfl, rfl⟩ m)
    obtain ⟨_, _, e⟩ := s.joinMessage_touches m
    rw [e]
  takeMessage _ h := h.takeMessage
  engineFrame _ src h := h.engineFrame src
  advanceSlot s i h := h.of_transmits rfl ((Report.Lasts.transmissions _ _).advanceSlot (s := s) ⟨rfl, rfl⟩ i)
  sweepVisits s h := by
    refine h.of_transmits ?_ (((Report.Lasts.transmissions _ _).mono (Nat.zero_le 16)).sweepVisits (s := s) ⟨rfl, rfl⟩)
    obtain ⟨_, _, _, e⟩ := s.sweepVisits_touches
    rw [e]
  lowerTimer s h := by
    obtain ⟨_, _, hx, hy⟩ := s.report.lowerTimer_same.1
    exact h.of_transmits rfl ⟨hx, hy⟩
  composeIfDue s h := by
    obtain ⟨_, _, hx, hy⟩ := s.report.composeIfDue_same.1
    exact h.of_transmits rfl ⟨hx, hy⟩
  startUp := ⟨(fun _ e => nomatch e), (fun _ e => nomatch e)⟩

/-- Settles O56: the framer octet by octet, the queues by joins and takes, and the messages in transmission by the word of
each engine frame. -/
theorem channelAndLanesKept : Obligations.ChannelAndLanesKept :=
  ⟨fun _ _ hs h => ChannelOk.kept.step hs h, fun _ _ hs h => LanesOk.kept.step hs h⟩

end Sys2Proof.Machine
end

section
namespace Sys2Proof.Machine

/-! ### START_UP_RESET (R185, log entry 8) -/

/-- Settles O5: the row is `execStartUpReset`, which keeps `pending` alone. -/
theorem startUpResetGivesStartUpState : Obligations.StartUpResetGivesStartUpState := fun _ => rfl

/-! ### READ_COUNTERS (R168, R184) -/

/-- The values of counters first..first + count − 1, in bank order. -/
def Report.counterRun (r : Report) (first count : Nat) : List Nat :=
  (List.range count).map fun j => r.counters.toList.getD (first + j) 0

theorem Report.length_counterRun (r : Report) (first count : Nat) : (r.counterRun first count).length = count := by
  rw [Report.counterRun, List.length_map, List.length_range]

theorem Report.counterRun_getD (r : Report) {first count : Nat} {n : Fin 84} (hfirst : first ≤ n.val)
    (hlast : n.val < first + count) : (r.counterRun first count).getD (n.val - first) 0 = r.counters[n] := by
  have hj : n.val - first < count := by omega
  have hn : first + (n.val - first) = n.val := by omega
  simp [Report.counterRun, List.getD_eq_getElem?_getD, hj, hn]

theorem doReadCounters_refused (s : State) {first count clear : Octet}
    (h : count.toNat = 0 ∨ 28 < count.toNat ∨ 84 < first.toNat + count.toNat ∨ 1 < clear.toNat) :
    doReadCounters [first, count, clear] s = .only s .range := by
  simp only [doReadCounters, List.getD_cons_zero, List.getD_cons_succ]
  by_cases hrun : 1 ≤ count.toNat ∧ count.toNat ≤ 28 ∧ first.toNat + count.toNat ≤ 84
  · rw [if_pos hrun, bit?_of_lt (by omega)]
  · rw [if_neg hrun]

theorem doReadCounters_run (s : State) {first count clear : Octet} (hcount : 1 ≤ count.toNat) (hcount' : count.toNat ≤ 28)
    (hrun : first.toNat + count.toNat ≤ 84) (hclear : clear.toNat ≤ 1) :
    doReadCounters [first, count, clear] s =
      .withData
        (if clear.toNat = 1 then { s with report := s.report.zeroCounters first.toNat count.toNat } else s) .ok
        ((s.report.counterRun first.toNat count.toNat).flatMap count16) := by
  simp only [doReadCounters, List.getD_cons_zero, List.getD_cons_succ]
  rw [if_pos ⟨hcount, hcount', hrun⟩, bit?_of_le hclear, Report.counterRun, List.flatMap_map]
  simp only [decide_eq_true_eq]

/-- The clear option decides for the whole run, and so for each counter of the bank. -/
theorem State.zeroCounters_if (s : State) (first count : Nat) (clear : Prop) [Decidable clear] :
    (if clear then { s with report := s.report.zeroCounters first count } else s) =
      { s with
        report := { s.report with
          counters := Vector.ofFn fun n =>
            if clear ∧ first ≤ n.val ∧ n.val < first + count then 0 else s.report.counters[n] } } := by
  by_cases hclear : clear
  · simp only [hclear, if_true, true_and]
    rfl
  · have hbank : Vector.ofFn (fun n : Fin 84 => s.report.counters[n]) = s.report.counters := by
      ext n hn
      rw [Vector.getElem_ofFn]
      rfl
    simp only [hclear, if_false, false_and, hbank]

theorem exec_readCounters_reply {s t : State} (h : s.ready) (tag : Octet) {p q : List Octet} (hp : p.length = 3)
    (hr : doReadCounters p s = ⟨t, q⟩) : exec (.readCounters tag p) s = .next (t.respond 0x8F#8 tag q) :=
  exec_reply h (k := 0x0F#8) rfl (by decide) (beq_iff_eq.2 hp) hr

/-- Settles O40: `doReadCounters` by the range of its octets; the values are `Report.counterRun`, and of the bank
`State.zeroCounters_if` says what the clear option leaves. -/
theorem readCountersReturnsValues : Obligations.ReadCountersReturnsValues := by
  intro s tag first count clear hready command
  refine ⟨fun h => exec_readCounters_reply hready tag rfl (doReadCounters_refused s h),
    fun hcount hcount' hrun hclear => ?_⟩
  refine ⟨s.report.counterRun first.toNat count.toNat, s.report.length_counterRun _ _,
    fun n hfirst hlast => s.report.counterRun_getD hfirst hlast, ?_⟩
  have hdo := doReadCounters_run s hcount hcount' hrun hclear
  rw [State.zeroCounters_if] at hdo
  exact exec_readCounters_reply hready tag rfl hdo

end Sys2Proof.Machine
end

section
namespace Sys2Proof.Machine

/-! ### The world's queue: no operation of the card reaches it (log entries 8 and 18) -/

@[simp] theorem State.joinMessage_pending (s : State) (m : Message) : (s.joinMessage m).pending = s.pending := by
  obtain ⟨_, _, h⟩ := s.joinMessage_touches m
  rw [h]

@[simp] theorem State.takeMessage_pending (s : State) : s.takeMessage.pending = s.pending := by
  rcases s.takeMessage_cases with h | ⟨m, rest, _, _, h⟩
  · rw [h]
  · rw [h, State.execute_pending]

@[simp] theorem State.receive_pending (s : State) (l : Link) (f : LinkFrame) : (s.receive l f).pending = s.pending := by
  obtain ⟨_, _, _, _, _, h⟩ := s.receive_touches l f
  rw [h]

@[simp] theorem State.failFrame_pending (s : State) (l : Link) (bad : Bool) : (s.failFrame l bad).pending = s.pending := by
  obtain ⟨_, _, _, _, _, h⟩ := s.failFrame_touches l bad
  rw [h]

@[simp] theorem State.noteArrival_pending (s : State) (l : Link) (before : ClockState) (dt : Nat) :
    (s.noteArrival l before dt).pending = s.pending := by
  obtain ⟨_, h⟩ := s.noteArrival_touches l before dt
  rw [h]

@[simp] theorem State.noteMissed_pending (s : State) (l : Link) : (s.noteMissed l).pending = s.pending := by
  obtain ⟨_, h⟩ := s.noteMissed_touches l
  rw [h]

@[simp] theorem State.readLane_pending (s : State) (l : Link) (lane : List Octet) :
    (s.readLane l lane).pending = s.pending := by
  obtain ⟨_, _, _, h⟩ := s.readLane_touches l lane
  rw [h]

@[simp] theorem State.breakLane_pending (s : State) (l : Link) (was : LinkState) :
    (s.breakLane l was).pending = s.pending := by
  obtain ⟨_, _, h⟩ := s.breakLane_touches l was
  rw [h]

@[simp] theorem State.sweepVisits_pending (s : State) : s.sweepVisits.pending = s.pending := by
  obtain ⟨_, _, _, h⟩ := s.sweepVisits_touches
  rw [h]

@[simp] theorem State.engineFrame_pending (s : State) (src : FrameSource) : (s.engineFrame src).pending = s.pending := by
  obtain ⟨_, _, _, _, _, _, hpending⟩ := s.engineFrame_leaves src
  exact hpending

/-! ### Takes in a row and the ends of events leave it too -/

@[simp] theorem State.takeMessages_pending (n : Nat) (s : State) : (State.takeMessages n s).pending = s.pending :=
  State.takeMessages_keeps (P := fun t => t.pending = s.pending) (fun t h => t.takeMessage_pending.trans h) n s rfl

@[simp] theorem State.submit_pending (s : State) (m : Message) : (s.submit m).pending = s.pending :=
  (State.takeMessages_pending _ _).trans (s.joinMessage_pending m)

@[simp] theorem State.endEvent_pending (s : State) (l : Link) (n : Nat) (src : FrameSource) :
    (s.endEvent l n src).pending = s.pending :=
  State.endEvent_keeps (P := fun t => t.pending = s.pending) src (fun t h => t.takeMessage_pending.trans h)
    (fun t _ h => (t.engineFrame_pending src).trans h) s l n rfl

@[simp] theorem State.periodEvent_pending (s : State) : s.periodEvent.pending = s.pending :=
  State.periodEvent_keeps (P := fun t => t.pending = s.pending) (fun t h => t.takeMessage_pending.trans h)
    (fun t _ h => (t.engineFrame_pending .oscillator).trans h) s rfl

@[simp] theorem State.passEvent_pending (s : State) (l : Link) (f : LinkFrame) (dt late : Nat) :
    (s.passEvent l f dt late).pending = s.pending := by
  simp only [State.passEvent, State.takeFrame, State.endEvent_pending, State.readLane_pending, State.noteArrival_pending,
    State.receive_pending]

@[simp] theorem State.badEvent_pending (s : State) (l : Link) (dt : Nat) : (s.badEvent l dt).pending = s.pending := by
  unfold State.badEvent
  split
  · rfl
  · simp only [State.endEvent_pending, State.breakLane_pending, State.noteArrival_pending, State.failFrame_pending]

@[simp] theorem State.missingEvent_pending (s : State) (l : Link) : (s.missingEvent l).pending = s.pending := by
  unfold State.missingEvent
  split
  · rfl
  · simp only [State.endEvent_pending, State.breakLane_pending, State.noteMissed_pending, State.failFrame_pending]

/-! ### The rows of the table -/

/-- A row that makes its event only where it is one step away leaves the queue when the event does (log entry 6). -/
theorem State.ite_pending {s t : State} (c : Prop) [Decidable c] (h : t.pending = s.pending) :
    (if c then t else s).pending = s.pending := by
  split
  · exact h
  · rfl

/-- Settles O3, row by row: each answers the state its event leaves, by the operation's own lemma above; every row of the
controller hands a message on. -/
theorem everyCommandCompletes : Obligations.EveryCommandCompletes := by
  intro c s
  cases c with
  | passingFrame l octets dt takes =>
    rw [exec, execPassingFrame]
    split
    · exact ⟨_, rfl, (State.passEvent_pending _ l _ dt _).trans (State.takeMessages_pending _ s)⟩
    · exact ⟨_, rfl, (State.badEvent_pending _ l dt).trans (State.takeMessages_pending _ s)⟩
  | badFrame l dt => exact ⟨_, rfl, s.badEvent_pending l dt⟩
  | missingFrame l => exact ⟨_, rfl, s.missingEvent_pending l⟩
  | oscillatorPeriod => exact ⟨_, rfl, s.periodEvent_pending⟩
  | startUpReset => exact ⟨_, rfl, rfl⟩
  | rampCompletion r c =>
    rw [exec, execRampCompletion]
    split
    · exact ⟨_, rfl, State.ite_pending _ rfl⟩
    · exact ⟨_, rfl, rfl⟩
  | punchArrival i => exact ⟨_, rfl, State.ite_pending _ (s.advanceSlot_pending i)⟩
  | sweepCompletion => exact ⟨_, rfl, State.ite_pending _ s.sweepVisits_pending⟩
  | coalescingTimerExpiry =>
    rw [exec, execCoalescingTimerExpiry]
    split
    · exact ⟨_, rfl, State.ite_pending _ rfl⟩
    · exact ⟨_, rfl, rfl⟩
  | noticeComposition => exact ⟨_, rfl, rfl⟩
  | _ => exact ⟨_, rfl, s.submit_pending _⟩

/-! ### The step -/

theorem step_of_pending_cons {s : State} {c : Instr} {rest : List Instr} (h : s.pending = c :: rest) :
    step s = exec c { s with pending := rest } := by
  rw [step, h]

/-- Settles O1: the arm of `step` for a queue that is not empty. -/
theorem stepRunsFrontCommand : Obligations.StepRunsFrontCommand := fun _ _ _ => step_of_pending_cons

end Sys2Proof.Machine
end
